-- ==== Sys2Proof/Word.lean ====
section
/-! DEFINITION. The byte, the four channels, a value per channel, sets of channels, and clamping. -/

namespace Sys2Proof

/-- One byte of a frame, one sample code, one intensity count or one colour index. -/
abbrev Byte := BitVec 8

/-- The analog channels CH1 to CH4. -/
inductive Channel where
  | ch1 | ch2 | ch3 | ch4
  deriving DecidableEq, Repr

/-- The channel number, 1 to 4. -/
def Channel.num : Channel → Nat
  | .ch1 => 1 | .ch2 => 2 | .ch3 => 3 | .ch4 => 4

/-- The channel that a number 1 to 4 names. -/
def Channel.ofNum? : Nat → Option Channel
  | 1 => some .ch1 | 2 => some .ch2 | 3 => some .ch3 | 4 => some .ch4 | _ => none

/-- The four channels, in ascending number. -/
def Channel.all : List Channel := [.ch1, .ch2, .ch3, .ch4]

/-- One value for each channel. -/
structure Quad (α : Type) where
  c1 : α
  c2 : α
  c3 : α
  c4 : α
  deriving DecidableEq, Repr

def Quad.get {α : Type} (q : Quad α) : Channel → α
  | .ch1 => q.c1 | .ch2 => q.c2 | .ch3 => q.c3 | .ch4 => q.c4

def Quad.put {α : Type} (q : Quad α) (ch : Channel) (x : α) : Quad α :=
  match ch with
  | .ch1 => { q with c1 := x }
  | .ch2 => { q with c2 := x }
  | .ch3 => { q with c3 := x }
  | .ch4 => { q with c4 := x }

def Quad.fill {α : Type} (x : α) : Quad α := ⟨x, x, x, x⟩

/-- The value of a function at each channel. -/
def Quad.of {α : Type} (f : Channel → α) : Quad α := ⟨f .ch1, f .ch2, f .ch3, f .ch4⟩

def Quad.map {α β : Type} (f : α → β) (q : Quad α) : Quad β := ⟨f q.c1, f q.c2, f q.c3, f q.c4⟩

/-- A set of channels: whether each is in it. -/
abbrev ChSet := Quad Bool

/-- How many channels a set holds. -/
def Quad.count (q : ChSet) : Nat :=
  q.c1.toNat + q.c2.toNat + q.c3.toNat + q.c4.toNat

/-- A set of channels as frames write it: the sum of 1, 2, 4 and 8 for CH1 to CH4 (R30, R83). -/
def Quad.bits (q : ChSet) : Nat :=
  q.c1.toNat + 2 * q.c2.toNat + 4 * q.c3.toNat + 8 * q.c4.toNat

/-- The channels in both sets. -/
def Quad.inter (a b : ChSet) : ChSet := ⟨a.c1 && b.c1, a.c2 && b.c2, a.c3 && b.c3, a.c4 && b.c4⟩

/-- clamp(x, a, b) of the manual's conventions (00_scope.md): `b` above, `a` below, `x` between. -/
def clampInt (x a b : Int) : Int := if x < a then a else if b < x then b else x

end Sys2Proof
end

