-- ==== Sys2Proof/Syntax.lean ====
section
/-! DEFINITION. The commands of the LQ460, one constructor per row of spec/opcode_table.json, in its order. -/

namespace Sys2Proof

/-- Where a full reset cuts the operation executing on the store device (R176): in the erase, in the program
step, or in the read-back, and then whether what had been written was good. -/
inductive CutPhase where
  | erasing
  | programming
  | readBack (good : Bool)
  deriving DecidableEq, Repr

/-- A command. A request carries the tag and the body of its frame. `cond` holds the overload conditions of
CH1 (bit 0) to CH4 (bit 3) as CHAN would read them during the command (log entry 12). -/
inductive Instr where
  /-- FULL_RESET, R191; `cut` says where an executing store operation is cut (R176). -/
  | fullReset (cut : CutPhase)
  /-- START_UP_SCAN_END, R175; `flaws` marks the sectors (0 to 31 the slots, 32 the calibration sector) that
  read back without a matching check. -/
  | startUpScanEnd (flaws : BitVec 33) (cond : BitVec 4)
  /-- CHIP_SELECT_RELEASE, R178; `residue` holds the bytes clocked in since the last frame ended. -/
  | chipSelectRelease (residue : List Byte)
  /-- INBOUND_FRAME_DISCARDED, R178; `frame` holds the bytes from the sync byte on. -/
  | inboundFrameDiscarded (frame : List Byte)
  /-- NO_ROOM, R180; the kind, tag and body of the frame. -/
  | noRoom (kind tag : Byte) (body : List Byte)
  /-- UNKNOWN_KIND, R181; the kind, tag and body of the frame. -/
  | unknownKind (kind tag : Byte) (body : List Byte)
  | outboundFrameStart
  | identify (tag : Byte) (body : List Byte)
  | echo (tag : Byte) (body : List Byte)
  | getStatus (tag : Byte) (body : List Byte)
  | resetPart (tag : Byte) (body : List Byte)
  | setClock (tag : Byte) (body : List Byte)
  | setNoticeMask (tag : Byte) (body : List Byte)
  | set (tag : Byte) (body : List Byte) (cond : BitVec 4)
  | setBatch (tag : Byte) (body : List Byte) (cond : BitVec 4)
  | get (tag : Byte) (body : List Byte)
  | run (tag : Byte) (body : List Byte)
  | single (tag : Byte) (body : List Byte)
  | stop (tag : Byte) (body : List Byte)
  | forceTrigger (tag : Byte) (body : List Byte)
  | selfCal (tag : Byte) (body : List Byte)
  | getCal (tag : Byte) (body : List Byte)
  | restoreChannel (tag : Byte) (body : List Byte) (cond : BitVec 4)
  | getHistory (tag : Byte) (body : List Byte)
  | openReadout (tag : Byte) (body : List Byte)
  | readChunk (tag : Byte) (body : List Byte)
  | closeReadout (tag : Byte) (body : List Byte)
  | readoutIdleTimeout
  | memoryWakeEnd
  /-- DIGITIZER_SAMPLE, R43; the code of each channel's digitizer at this sample position. -/
  | digitizerSample (codes : Quad Byte)
  /-- EXT_TRANSITION, R45; `rising` for low-to-high. -/
  | extTransition (rising : Bool)
  | preTriggerDepthReached
  | postTriggerFillComplete
  | holdoffExpiry
  | autoTimerExpiry
  /-- OVERLOAD_REPORT, R20; the channel whose front end reports. -/
  | overloadReport (ch : Channel)
  /-- TEMPERATURE_SAMPLE, R25; the sensor's value in 0.1 °C. -/
  | temperatureSample (value : Int)
  /-- CAL_TURN_END, R31; sixteen times the mean code the digitizer saw. -/
  | calTurnEnd (mean16 : Nat) (cond : BitVec 4)
  | drawColumn
  | clearPersist (tag : Byte) (body : List Byte)
  | frameEvent
  | fillRect (tag : Byte) (body : List Byte)
  | putText (tag : Byte) (body : List Byte)
  | putPixels (tag : Byte) (body : List Byte)
  | endBatch (tag : Byte) (body : List Byte)
  | planeSyncComplete
  | setPalette (tag : Byte) (body : List Byte)
  | setDisplayPower (tag : Byte) (body : List Byte)
  | setDisplayTimeouts (tag : Byte) (body : List Byte)
  | panelScanningBegins
  | backlightOn
  | panelScanningStops
  | panelLogicDisabled
  | dimExpiry
  | blankExpiry
  /-- MATRIX_SCAN, R136; bit k of `sensed` is 1 when key k is sensed pressed. -/
  | matrixScan (sensed : BitVec 64) (cond : BitVec 4)
  | repeatTimerDue (key : Fin 64)
  | longTimerDue (key : Fin 64)
  /-- ENCODER_LINE_CHANGE, R144; the levels of the encoder's lines A and B after the change, and the tag and body of the
  SET_AUTHORITY, if any, that reaches the part between the two panel changes of a detent on VIEW_SPAN (R148, log
  entry 48). -/
  | encoderLineChange (enc : Fin 6) (lines : Bool × Bool) (between : Option (Byte × List Byte))
  | setKeyBinding (tag : Byte) (body : List Byte)
  | setEncoderBinding (tag : Byte) (body : List Byte)
  | setLed (tag : Byte) (body : List Byte)
  | getPanel (tag : Byte) (body : List Byte)
  | setAuthority (tag : Byte) (body : List Byte)
  | answerLocal (tag : Byte) (body : List Byte)
  | requestTimerExpiry
  | deniedTimerExpiry
  | save (tag : Byte) (body : List Byte)
  | recall (tag : Byte) (body : List Byte)
  | erase (tag : Byte) (body : List Byte)
  | protect (tag : Byte) (body : List Byte)
  | listSlots (tag : Byte) (body : List Byte)
  | setAutosave (tag : Byte) (body : List Byte)
  /-- SAVE_COMPLETE, R167; whether the sector erased blank and its check read back matches. -/
  | saveComplete (good : Bool)
  /-- RECALL_COMPLETE, R168; whether the check computed over the sector read matches the directory's. -/
  | recallComplete (good : Bool) (cond : BitVec 4)
  /-- ERASE_COMPLETE, R169; whether the sector reads back blank. -/
  | eraseComplete (blank : Bool)
  /-- PROTECT_COMPLETE, R170; whether the read-back is good. -/
  | protectComplete (good : Bool)
  /-- CAL_WRITE_COMPLETE, R173; whether the read-back is good. -/
  | calWriteComplete (good : Bool)
  | autosaveTimerExpiry
  | chipSelectAssert
  | outboundFrameEnd
  deriving DecidableEq, Repr

end Sys2Proof
end

