-- ==== Sys2Proof/Config.lean ====
section
/-! DEFINITION. What the part fixes and the manual does not give: free values, without a body. -/

namespace Sys2Proof

/-- The glyph shapes of the built-in font: whether the pixel in column `x` (0 to 7) and row `y` (0 to 15) of
the cell is a foreground pixel of the character with this code (0x20 to 0x7E).
R115: the shapes "are fixed in the part and are not given in this manual" (log entry 19). -/
opaque Config.glyph (code x y : Nat) : Bool

/-- The bytes of a slot sector's header and image, over which its CRC-16 check is computed.
Section 10.1 names the contents (name, origin, saved_at, write_count, protected; format version and the 46
values) and not their layout (log entry 18). -/
opaque Config.sectorBytes (name : List Byte) (origin : Nat) (savedAt : Option (BitVec 32)) (writeCount : Nat)
    (isProtected : Bool) (version : Nat) (values : List Int) : List Byte

/-- Whether REND's request for a DRAW hold reaches CAP before ACQ's request for a segment, at the `n`-th time that both ask
for the same COMPLETE segment.
R78: they "may reach CAP together", and either may be taken first (log entry 52). -/
opaque Config.holdFirst (n : Nat) : Bool

end Sys2Proof
end

