-- ==== Sys2Proof/Machine/State.lean ====
section
/-! DEFINITION. The state of the LQ460: everything the manual gives its eleven blocks, as plain data, and the
state right after a full reset (R17, R38, R57, R74, R91, R111, R135, R153, R162, R176, R191). -/

namespace Sys2Proof.Machine

/-! ## Words shared by the blocks -/

/-- A running timer: its length and the time it has run, in microseconds. A stopped timer is `none`. -/
structure Timer where
  length  : Nat
  elapsed : Nat
  deriving DecidableEq, Repr

/-- A byte memory: (address, byte) pairs in one canonical form (`Mem.wf`); an unlisted address reads as 0. -/
abbrev Mem := List Host.Cell

/-- The request kinds of Table 11-2. -/
inductive ReqKind where
  | identify | echo | getStatus | resetPart | setClock | setNoticeMask
  | set | setBatch | get
  | run | single | stop | forceTrigger
  | selfCal | getCal | restoreChannel
  | getHistory | openReadout | readChunk | closeReadout
  | clearPersist
  | fillRect | putText | putPixels | endBatch | setPalette | setDisplayPower | setDisplayTimeouts
  | setKeyBinding | setEncoderBinding | setLed | getPanel
  | setAuthority | answerLocal
  | save | recall | erase | protect | listSlots | setAutosave
  deriving DecidableEq, Repr

/-- The blocks of Table 0-1. -/
inductive Block where
  | link | sett | chan | trig | acq | cap | rend | disp | panel | auth | store
  deriving DecidableEq, Repr

/-- The statuses of Table 11-4. -/
inductive Status where
  | ok | clamped | unknownKind | badLength | badValue | badState | busy | queueFull | notFound | isProtected
  | duplicateTag | abandoned | tooLate | checkFailed | deviceFault | starting
  deriving DecidableEq, Repr

/-- The reasons of Table 11-5. -/
inductive Reason where
  | acqRunning | calibrating | noChannel | channelProtected | overloadPresent | triggered | notRunning
  | noReadout | panelDark
  deriving DecidableEq, Repr

/-! ## Settings (SETT) -/

/-- The names of the 46 settings (Tables 1-1 and 1-2). -/
inductive Setting where
  | acqMode | acqInterval | acqLength | acqSegments
  | enable (ch : Channel) | scale (ch : Channel) | offset (ch : Channel) | coupling (ch : Channel) | term (ch : Channel)
  | trigSource | trigType | trigSlope | trigLevel | trigHyst | trigWidthCond | trigWidthLo | trigWidthHi
  | trigHoldoff | trigMode | trigPosition
  | position (ch : Channel)
  | viewStart | viewSpan | drawStyle | persistMode | persistDecay | intensity | graticule
  deriving DecidableEq, Repr

/-- The five settings that occur once per channel (Table 1-2). -/
structure ChanSettings where
  enable   : Int
  scale    : Int
  offset   : Int
  coupling : Int
  term     : Int
  deriving DecidableEq, Repr

/-- The 46 values (R1). -/
structure Settings where
  acqMode       : Int
  acqInterval   : Int
  acqLength     : Int
  acqSegments   : Int
  chan          : Quad ChanSettings
  trigSource    : Int
  trigType      : Int
  trigSlope     : Int
  trigLevel     : Int
  trigHyst      : Int
  trigWidthCond : Int
  trigWidthLo   : Int
  trigWidthHi   : Int
  trigHoldoff   : Int
  trigMode      : Int
  trigPosition  : Int
  position      : Quad Int
  viewStart     : Int
  viewSpan      : Int
  drawStyle     : Int
  persistMode   : Int
  persistDecay  : Int
  intensity     : Int
  graticule     : Int
  deriving DecidableEq, Repr

/-- Where a settings change comes from (section 1.5). -/
inductive Origin where
  | link | panel | recall | startUp | derived
  deriving DecidableEq, Repr

/-- The defaults of Tables 1-1 and 1-2; VIEW_SPAN's is the default record length, 16,384 (R1). -/
def Settings.defaults : Settings :=
  { acqMode := 0, acqInterval := 9, acqLength := 14, acqSegments := 16
    chan := ⟨⟨1, 6, 0, 0, 0⟩, ⟨0, 6, 0, 0, 0⟩, ⟨0, 6, 0, 0, 0⟩, ⟨0, 6, 0, 0, 0⟩⟩
    trigSource := 1, trigType := 0, trigSlope := 0, trigLevel := 0, trigHyst := 2, trigWidthCond := 0
    trigWidthLo := 100, trigWidthHi := 1000, trigHoldoff := 0, trigMode := 0, trigPosition := 500
    position := ⟨0, 0, 0, 0⟩
    viewStart := 0, viewSpan := 16384, drawStyle := 0, persistMode := 0, persistDecay := 32
    intensity := 16, graticule := 0 }

structure Sett where
  vals : Settings
  gen  : BitVec 16
  deriving DecidableEq, Repr

/-! ## Channels (CHAN) -/

/-- A calibration record (section 2.3). -/
structure CalRecord where
  valid      : Bool
  calOffset  : Int
  calTemp    : Int
  tempco     : Int
  staleLimit : Int
  calCount   : Nat
  deriving DecidableEq, Repr

/-- What was last programmed into a front end (R19), and whether its input is grounded for a turn (R31). -/
structure FrontEnd where
  scale    : Int
  offset   : Int
  coupling : Int
  term     : Int
  isolated : Bool
  grounded : Bool
  deriving DecidableEq, Repr

inductive CalState where
  | none | fresh | stale
  deriving DecidableEq, Repr

/-- The state of a channel (Table 2-1). -/
inductive ChanState where
  | off | on | isProtected | calibrating
  deriving DecidableEq, Repr

/-- What CHAN holds for one channel. -/
structure ChanUnit where
  latch      : Bool
  front      : FrontEnd
  record     : CalRecord
  cal        : CalState
  t          : Int
  d          : Int
  takeTarget : Bool
  deriving DecidableEq, Repr

inductive TurnOutcome where
  | ok | outOfRange | isProtected | settingsChanged
  deriving DecidableEq, Repr

/-- The result of one channel's turn (R34). -/
structure TurnResult where
  ch      : Channel
  mean16  : Nat
  outcome : TurnOutcome
  deriving DecidableEq, Repr

/-- A self-calibration in flight (R30, R31): `turn` is the channel whose turn is running, and `to50` says whether a
change of its termination to 50 Ω was taken in the turn (R32). -/
structure SelfCal where
  tag   : Byte
  named : ChSet
  turn  : Channel
  scale : Int
  to50  : Bool
  todo  : List Channel
  done  : List TurnResult
  deriving DecidableEq, Repr

structure Chans where
  unit    : Quad ChanUnit
  temp    : Int
  sampled : Bool
  selfCal : Option SelfCal
  deriving DecidableEq, Repr

/-! ## Trigger unit (TRIG) -/

/-- Last trigger forced (section 3.1): no, or by which cause. -/
inductive Forced where
  | no | byAuto | byRequest
  deriving DecidableEq, Repr

/-- The width measurement in pulse (R46). -/
structure Pulse where
  positive : Bool
  count    : Nat
  deriving DecidableEq, Repr

structure Trig where
  lc         : Int
  ladder     : Int
  limited    : Bool
  rising     : Bool   -- ARMED
  falling    : Bool   -- ARMED
  width      : Option Pulse
  loS        : Int
  hiS        : Int
  holdoff    : Option Timer   -- RUNNING; `none` is EXPIRED
  auto       : Option Timer   -- RUNNING; `none` is STOPPED
  force      : Bool
  lastForced : Forced
  index      : Nat
  candHere   : Bool
  deriving DecidableEq, Repr

/-! ## Acquisition controller (ACQ) -/

inductive AcqState where
  | stopped | arming | fillingPre | ready | fillingPost | calibrating
  deriving DecidableEq, Repr

inductive RunKind where
  | continuous | sequence | single
  deriving DecidableEq, Repr

structure Acq where
  state       : AcqState
  kind        : RunKind
  stopPending : Bool
  seq         : Nat
  base        : BitVec 48
  inFlight    : Option Nat
  e           : Nat
  q           : Nat
  depth       : Bool
  trigTime    : BitVec 48
  forced      : Bool
  deriving DecidableEq, Repr

/-! ## Capture memory controller (CAP) -/

/-- The record of a COMPLETE segment (section 5.2). `oldest` is the place in the circle of record index 0 (R79). -/
structure Filed where
  seq      : Nat
  trigTime : BitVec 48
  wall     : Option (BitVec 32)
  q        : Nat
  forced   : Bool
  gen      : BitVec 16
  present  : ChSet
  invalid  : ChSet
  draw     : Bool
  read     : Bool
  oldest   : Nat
  deriving DecidableEq, Repr

/-- A segment record; its index is its place in the list. -/
inductive Segment where
  | free
  | filling (present invalid : ChSet)
  | complete (f : Filed)
  deriving DecidableEq, Repr

inductive MemPower where
  | active | retention | waking
  deriving DecidableEq, Repr

/-- The cursor of a readout (R84). -/
structure Cursor where
  seg       : Nat
  ch        : Channel
  next      : Nat
  stride    : Nat
  remaining : Nat
  deriving DecidableEq, Repr

/-- The readout state (section 5.6). OPENING holds the deferred request's tag, its status and start, and the
tags of the READ_CHUNKs that wait. -/
inductive Readout where
  | closed
  | opening (c : Cursor) (tag : Byte) (status : Status) (waiting : List Byte)
  | opened (c : Cursor)
  | abandoned
  deriving DecidableEq, Repr

structure Cap where
  mem      : Mem
  len      : Nat
  chans    : Nat
  segs     : List Segment
  history  : List Nat
  waiting  : Bool
  readout  : Readout
  idle     : Option Timer
  power    : MemPower
  pre      : Nat
  post     : Nat
  awaiting : Bool
  oldest   : Nat
  deriving DecidableEq, Repr

/-! ## Trace renderer (REND) -/

/-- The pass record (R94, Table 6-1). `span` is each drawn channel's own span in the last column applied. -/
structure Pass where
  seq    : Nat
  seg    : Nat
  next   : Nat
  d      : Quad Int
  p      : Quad Int
  s      : Nat
  w      : Nat
  style  : Int
  h      : Nat
  drawn  : ChSet
  span   : Quad (Option (Int × Int))
  above  : ChSet
  below  : ChSet
  deriving DecidableEq, Repr

structure Rend where
  maps      : Quad Mem
  pass      : Option Pass
  lastDrawn : Option Nat
  above     : ChSet
  below     : ChSet
  deriving DecidableEq, Repr

/-! ## Display controller (DISP) -/

inductive Power where
  | blank | poweringUp | on | dim | poweringDown
  deriving DecidableEq, Repr

/-- The cause of a display event (R134). -/
inductive Cause where
  | request | timeout | activity | startUp
  deriving DecidableEq, Repr

structure Rgb where
  r : Byte
  g : Byte
  b : Byte
  deriving DecidableEq, Repr

/-- A command of the overlay command queue (R119 to R123). -/
inductive Overlay where
  | fillRect (x y : Int) (w h : Nat) (index : Byte)
  | putText (x y : Int) (text back : Byte) (chars : List Byte)
  | putPixels (x y : Int) (w h : Nat) (runs : List (Nat × Byte))
  | endBatch (tag : Byte)
  deriving DecidableEq, Repr

/-- A picture as scanned out: all that R112 to R116 compose it from, as it stood at the scan-out.
`Picture.pixel` composes it. -/
structure Picture where
  front     : Mem
  palette   : List Rgb
  maps      : Quad Mem
  graticule : Int
  strip     : List Char
  deriving DecidableEq, Repr

/-- What the panel was last sent. -/
inductive Shown where
  | nothing
  | background
  | picture (p : Picture)
  deriving DecidableEq, Repr

structure Disp where
  power        : Power
  logic        : Bool
  scanning     : Bool
  blankPending : Bool
  wakePending  : Option Cause
  cause        : Cause
  onLevel      : Nat
  dimLevel     : Nat
  dimTimeout   : Nat
  blankTimeout : Nat
  idle         : Option Nat
  planeA       : Mem
  planeB       : Mem
  frontA       : Bool
  palette      : List Rgb
  queue        : List Overlay
  sync         : Bool
  shown        : Shown
  deriving DecidableEq, Repr

/-- Table 7-3. -/
def defaultPalette : List Rgb :=
  [⟨255, 255, 255⟩, ⟨192, 192, 192⟩, ⟨128, 128, 128⟩, ⟨64, 64, 64⟩, ⟨0, 0, 0⟩,
   ⟨255, 0, 0⟩, ⟨255, 128, 0⟩, ⟨255, 255, 0⟩, ⟨0, 255, 0⟩, ⟨0, 255, 255⟩,
   ⟨0, 0, 255⟩, ⟨255, 0, 255⟩, ⟨0, 0, 128⟩, ⟨0, 128, 0⟩, ⟨128, 0, 0⟩]

/-! ## Panel scanner (PANEL) -/

inductive KeyEvent where
  | press | release | repeat | long
  deriving DecidableEq, Repr

inductive KeyOutcome where
  | reported | done | refused | failed
  deriving DecidableEq, Repr

/-- What a key does on its PRESS (section 8.3). -/
inductive KeyAction where
  | report | runStop | single | force | clearPersist | restore (ch : Channel)
  | saveSlot (slot : Nat) | recallSlot (slot : Nat) | localRequest
  deriving DecidableEq, Repr

structure KeyBinding where
  action     : KeyAction
  repeatFlag : Bool
  alsoFlag   : Bool
  deriving DecidableEq, Repr

/-- An open hold (R138): the long timer is `none` once spent. -/
structure Hold where
  repeatTimer : Timer
  longTimer   : Option Timer
  consumed    : Bool
  deriving DecidableEq, Repr

structure Key where
  pressed : Bool
  count   : Nat
  blocked : Bool
  hold    : Option Hold
  deriving DecidableEq, Repr

/-- The decoder position (R144): at rest, some quarter-steps (1 to 3) into a cycle, or lost. -/
inductive DecoderPos where
  | rest
  | cycle (clockwise : Bool) (quarters : Nat)
  | lost
  deriving DecidableEq, Repr

/-- The present run of an encoder (R145). `last` is the model's clock at its last detent. -/
structure EncRun where
  clockwise : Bool
  length    : Nat
  last      : Nat
  deriving DecidableEq, Repr

structure Encoder where
  a   : Bool
  b   : Bool
  pos : DecoderPos
  run : Option EncRun
  deriving DecidableEq, Repr

/-- The target of an encoder (R146). -/
inductive EncTarget where
  | report | trigLevel | trigHyst | position (ch : Channel) | scale (ch : Channel)
  | viewStart | viewSpan | intensity | persistDecay
  deriving DecidableEq, Repr

inductive LampState where
  | off | on | slow | fast
  deriving DecidableEq, Repr

/-- The lamp sources of Table 8-4. -/
inductive LampSource where
  | link | running | stopped | singleArmed | chanOn (ch : Channel) | chanProtected (ch : Channel)
  | localSet | storeBusy | anyStale
  deriving DecidableEq, Repr

structure Lamp where
  source : LampSource
  state  : LampState
  deriving DecidableEq, Repr

structure Panel where
  scanning   : Bool
  keys       : Vector Key 64
  ms         : BitVec 16
  msUs       : Nat
  encs       : Vector Encoder 6
  keyBind    : Vector KeyBinding 64
  encBind    : Vector EncTarget 6
  lamps      : Vector Lamp 32
  brightness : Nat
  deriving DecidableEq, Repr

/-! ## Authority unit (AUTH) -/

/-- The groups of panel authority (section 9.1). -/
inductive Group where
  | acquisition | trigger | display | store
  deriving DecidableEq, Repr

/-- The authority set. -/
structure AuthSet where
  acquisition : Bool
  trigger     : Bool
  display     : Bool
  store       : Bool
  deriving DecidableEq, Repr

inductive LocalState where
  | idle | requested | denied
  deriving DecidableEq, Repr

inductive LocalEvent where
  | requested | granted | denied | timedOut | overridden | resolved
  deriving DecidableEq, Repr

structure Auth where
  set      : AuthSet
  override : Bool
  state    : LocalState
  request  : Option Timer
  denied   : Option Timer
  deriving DecidableEq, Repr

/-! ## Setup store (STORE) -/

/-- The content of a saved setup (R164). -/
structure Image where
  version : Nat
  vals    : Settings
  deriving DecidableEq, Repr

inductive SaveOrigin where
  | link | panel | auto
  deriving DecidableEq, Repr

/-- A slot sector's header (section 10.1). -/
structure SlotHeader where
  name        : List Byte
  origin      : SaveOrigin
  savedAt     : Option (BitVec 32)
  writeCount  : Nat
  isProtected : Bool
  deriving DecidableEq, Repr

/-- A slot sector of the store device: blank, a header and image under a check that matches, or anything else. -/
inductive Sector where
  | blank
  | written (h : SlotHeader) (i : Image)
  | spoiled
  deriving DecidableEq, Repr

/-- The calibration sector. -/
inductive CalSector where
  | blank
  | written (version : Nat) (records : Quad CalRecord)
  | spoiled
  deriving DecidableEq, Repr

structure Device where
  slots : Vector Sector 32
  cal   : CalSector
  deriving DecidableEq, Repr

inductive SlotState where
  | empty | valid | bad | writing
  deriving DecidableEq, Repr

/-- A directory entry (R163). -/
structure Entry where
  state       : SlotState
  name        : List Byte
  origin      : Option SaveOrigin
  savedAt     : Option (BitVec 32)
  writeCount  : Nat
  isProtected : Bool
  check       : Option (BitVec 16)
  deriving DecidableEq, Repr

inductive OpKind where
  | save | recall | erase | protect | autosave | calWrite
  deriving DecidableEq, Repr

inductive OpOrigin where
  | link | panel | auto | cal
  deriving DecidableEq, Repr

/-- An operation of the store queue (R165). `image` is carried by SAVE and AUTOSAVE, `name` by SAVE, `on` by PROTECT,
`tag` by a link operation. -/
structure Op where
  kind   : OpKind
  origin : OpOrigin
  slot   : Nat
  tag    : Byte
  name   : List Byte
  image  : Option Image
  on     : Bool
  deriving DecidableEq, Repr

/-- The execution of the head. `silent` after a link reset (R176). -/
structure Running where
  wasValid : Bool
  records  : Quad CalRecord
  silent   : Bool
  deriving DecidableEq, Repr

structure Store where
  dir        : Vector Entry 32
  queue      : List Op
  running    : Option Running
  autoTimer  : Option Timer
  autoEnable : Bool
  autoHeld   : Option Image
  calPending : Bool
  scanning   : Bool
  device     : Device
  deriving DecidableEq, Repr

/-! ## Link interface (LINK) -/

inductive AcqEvent where
  | started | stopped | calibrating | kindChanged
  deriving DecidableEq, Repr

/-- Why ACQ entered STOPPED (R73). -/
inductive StopCause where
  | request | stopAtCompletion | singleDone | sequenceComplete | calibrationEnded | noChannel
  deriving DecidableEq, Repr

inductive ChanEvent where
  | isProtected | restored | fresh | stale
  deriving DecidableEq, Repr

inductive DispEvent where
  | on | blank | wake
  deriving DecidableEq, Repr

/-- The cause of a link error (R178). -/
inductive LinkCause where
  | released | length | check | noRoom
  deriving DecidableEq, Repr

/-- An entry of the notice queue (Table 11-3), with the items of its body. -/
inductive Notice where
  | ready (imageApplied calRead : Bool) (bad : Nat)
  | key (key : Nat) (event : KeyEvent) (stamp : BitVec 16) (action : KeyAction) (outcome : KeyOutcome) (status : Status)
  | encoder (enc : Nat) (sum : Int) (refused : Bool) (target : EncTarget)
  | setting (id : Setting) (value : Int) (origin : Origin)
  | segment (seq : Nat) (gen : BitVec 16) (count : Nat)
  | acqState (event : AcqEvent) (cause : StopCause) (state : AcqState) (kind : RunKind) (gen : BitVec 16) (seq : Nat)
  | channel (ch : Channel) (event : ChanEvent) (state : ChanState) (latch : Bool) (cal : CalState) (d : Int)
  | localReq (event : LocalEvent) (set : AuthSet) (state : LocalState) (override : Bool)
  | store (op : OpKind) (origin : OpOrigin) (slot : Nat) (status : Status) (state : SlotState) (count : Nat)
  | display (event : DispEvent) (cause : Cause) (power : Power)
  | linkError (errors merged : Nat) (cause : LinkCause)
  | overflow (lost : Nat)
  deriving DecidableEq, Repr

/-- An entry of the pending-request table; the owning block is `ReqKind.owner` of the kind (R180). -/
structure PendingReq where
  tag  : Byte
  kind : ReqKind
  deriving DecidableEq, Repr

/-- A reply frame in the reply queue. -/
structure Reply where
  kind : Byte
  tag  : Byte
  body : List Byte
  deriving DecidableEq, Repr

/-- The frame in the output buffer, and how many of its bytes are out (R182). -/
structure OutFrame where
  bytes : List Byte
  sent  : Nat
  deriving DecidableEq, Repr

/-- The inbound frame assembler between commands (R178). -/
inductive Assembler where
  | awaitingSync
  | ignoring
  deriving DecidableEq, Repr

structure Link where
  rx      : Assembler
  table   : List PendingReq
  replies : List Reply
  notices : List Notice
  outBuf  : Option OutFrame
  mask    : BitVec 12
  errors  : Nat
  lost    : Nat
  tod     : BitVec 32
  todSet  : Bool
  todUs   : Nat
  started : Bool
  deriving DecidableEq, Repr

/-! ## The whole part -/

/-- The state of the part. `pending` and `clock` are the model's own (log entry 6), and so is `races`, which counts the times
that Config.holdFirst has been read (log entry 61). -/
structure State where
  pending : List Instr
  clock   : Nat
  races   : Nat
  link    : Link
  sett    : Sett
  chans   : Chans
  trig    : Trig
  acq     : Acq
  cap     : Cap
  rend    : Rend
  disp    : Disp
  panel   : Panel
  auth    : Auth
  store   : Store
  deriving DecidableEq, Repr

/-- Why the machine stops with a fault. -/
inductive Fault where
  /-- Raised by DIGITIZER_SAMPLE, READ_CHUNK, MEMORY_WAKE_END and DRAW_COLUMN when the record they would access does
  not lie within the 2^28 samples of the capture memory (R75). Safe: no partition the part makes reaches it. -/
  | outsideCaptureMemory
  deriving DecidableEq, Repr

/-- Why a command has no meaning. -/
inductive Refusal where
  /-- Raised by an arm of exec without a meaning; no arm is. Safe: nothing follows from it. -/
  | notModelled (mnemonic : String)
  deriving DecidableEq, Repr

/-! ## After a full reset -/

/-- R24: not valid, with stale_limit 50 and everything else 0. -/
def CalRecord.initial : CalRecord := ⟨false, 0, 0, 0, 50, 0⟩

/-- The front end connected, programmed as the defaults (log entry 2). -/
def ChanUnit.initial : ChanUnit :=
  { latch := false, front := ⟨6, 0, 0, 0, false, false⟩, record := CalRecord.initial, cal := .none
    t := 0, d := 0, takeTarget := true }

def Key.initial : Key := ⟨false, 0, false, none⟩
def KeyBinding.initial : KeyBinding := ⟨.report, false, false⟩
def Lamp.initial : Lamp := ⟨.link, .off⟩
def AuthSet.full : AuthSet := ⟨true, true, true, true⟩

/-- R163: an EMPTY or BAD entry holds nothing else. It holds no check either, whatever its sector holds (DESIGN CHOICE, log
entry 57). -/
def Entry.bare (st : SlotState) : Entry := ⟨st, [], none, none, 0, false, none⟩

def Link.reset : Link :=
  { rx := .awaitingSync, table := [], replies := [], notices := [], outBuf := none, mask := 0xFFF
    errors := 0, lost := 0, tod := 0, todSet := false, todUs := 0, started := false }

def Sett.reset : Sett := ⟨Settings.defaults, 0⟩

def Chans.reset : Chans := ⟨Quad.fill ChanUnit.initial, 250, false, none⟩

def Trig.reset : Trig :=
  { lc := 128, ladder := 0, limited := false, rising := false, falling := false, width := none, loS := 1, hiS := 1
    holdoff := none, auto := none, force := false, lastForced := .no, index := 0, candHere := false }

def Acq.reset : Acq :=
  { state := .stopped, kind := .continuous, stopPending := false, seq := 0, base := 0, inFlight := none
    e := 0, q := 0, depth := false, trigTime := 0, forced := false }

def Cap.reset : Cap :=
  { mem := [], len := 16384, chans := 1, segs := List.replicate 16 .free, history := [], waiting := false
    readout := .abandoned, idle := none, power := .active, pre := 0, post := 0, awaiting := false, oldest := 0 }

def Rend.reset : Rend := ⟨Quad.fill [], none, none, Quad.fill false, Quad.fill false⟩

def Disp.reset : Disp :=
  { power := .blank, logic := false, scanning := false, blankPending := false, wakePending := none, cause := .startUp
    onLevel := 15, dimLevel := 3, dimTimeout := 300, blankTimeout := 1800, idle := none, planeA := [], planeB := []
    frontA := true, palette := defaultPalette, queue := [], sync := false, shown := .nothing }

def Panel.reset : Panel :=
  { scanning := false, keys := Vector.replicate 64 Key.initial, ms := 0, msUs := 0
    encs := Vector.replicate 6 ⟨false, false, .rest, none⟩
    keyBind := Vector.replicate 64 KeyBinding.initial, encBind := Vector.replicate 6 .report
    lamps := Vector.replicate 32 Lamp.initial, brightness := 15 }

def Auth.reset : Auth := ⟨AuthSet.full, true, .idle, none, none⟩

def Device.blank : Device := ⟨Vector.replicate 32 .blank, .blank⟩

def Store.reset : Store :=
  { dir := Vector.replicate 32 (Entry.bare .empty), queue := [], running := none, autoTimer := none, autoEnable := true
    autoHeld := none, calPending := false, scanning := true, device := Device.blank }

/-- The part right after a full reset: every block at its full-reset values, start-up beginning (R191). -/
def State.reset : State :=
  { pending := [], clock := 0, races := 0, link := Link.reset, sett := Sett.reset, chans := Chans.reset
    trig := Trig.reset, acq := Acq.reset, cap := Cap.reset, rend := Rend.reset, disp := Disp.reset, panel := Panel.reset
    auth := Auth.reset, store := Store.reset }

/-! ## Setting one block's part of the state -/

def State.setLink (s : State) (x : Link) : State := { s with link := x }
def State.setSett (s : State) (x : Sett) : State := { s with sett := x }
def State.setChans (s : State) (x : Chans) : State := { s with chans := x }
def State.setTrig (s : State) (x : Trig) : State := { s with trig := x }
def State.setAcq (s : State) (x : Acq) : State := { s with acq := x }
def State.setCap (s : State) (x : Cap) : State := { s with cap := x }
def State.setRend (s : State) (x : Rend) : State := { s with rend := x }
def State.setDisp (s : State) (x : Disp) : State := { s with disp := x }
def State.setPanel (s : State) (x : Panel) : State := { s with panel := x }
def State.setAuth (s : State) (x : Auth) : State := { s with auth := x }
def State.setStore (s : State) (x : Store) : State := { s with store := x }
def State.setPending (s : State) (x : List Instr) : State := { s with pending := x }
def State.setClock (s : State) (x : Nat) : State := { s with clock := x }
def State.setRaces (s : State) (x : Nat) : State := { s with races := x }

end Sys2Proof.Machine
end

