-- ==== Sys2Proof/Machine/Ops.lean ====
section
/-! DEFINITION. The named operations every block uses: the manual's arithmetic, byte order, the CRC-16 check,
byte memories, tables, timers, and the quantities that settings stand for. -/

namespace Sys2Proof.Machine

/-- What a command answers. -/
abbrev Result := Host.Outcome State Fault Refusal

/-! ## Arithmetic (00_scope.md, Integer operations) -/

/-- roundaway(n / d): to the nearest integer, halves away from zero. -/
def roundAway (n : Int) (d : Nat) : Int :=
  if 0 ≤ n then (2 * n + d) / (2 * d) else -((-(2 * n) + d) / (2 * d))

/-- ceil(n / d). -/
def ceilDiv (n d : Nat) : Nat := (n + d - 1) / d

/-- A count that stops at its limit. -/
def satSucc (limit n : Nat) : Nat := if n < limit then n + 1 else n

/-! ## Bytes (00_scope.md, Multi-byte fields; R177) -/

/-- `k` bytes of a number, least significant first. -/
def leBytes : Nat → Nat → List Byte
  | 0, _ => []
  | k + 1, v => BitVec.ofNat 8 v :: leBytes k (v / 256)

/-- `k` bytes of a signed number, least significant first. -/
def leInt (k : Nat) (v : Int) : List Byte := leBytes k (v % (2 ^ (8 * k) : Nat)).toNat

/-- The number whose bytes these are, least significant first. -/
def ofLe : List Byte → Nat
  | [] => 0
  | b :: r => b.toNat + 256 * ofLe r

/-- The signed number whose bytes these are, least significant first. -/
def ofLeSigned (bs : List Byte) : Int :=
  let u := ofLe bs
  if 2 * u < 2 ^ (8 * bs.length) then u else (u : Int) - (2 ^ (8 * bs.length) : Nat)

def Byte.ofBool (b : Bool) : Byte := if b then 1 else 0

/-- The byte at a place of a body; 0 past its end. -/
def byteAt (bs : List Byte) (i : Nat) : Byte := bs.getD i 0

/-- `k` bytes of a body from place `i` on. -/
def slice (bs : List Byte) (i k : Nat) : List Byte := (bs.drop i).take k

/-- One bit step of the CRC with the polynomial x^16 + x^12 + x^5 + 1, not reflected (R177). -/
def crcBit (c : BitVec 16) : BitVec 16 := if c.msb then (c <<< 1) ^^^ 0x1021 else c <<< 1

def crcByte (c : BitVec 16) (b : Byte) : BitVec 16 :=
  let c := c ^^^ (b.zeroExtend 16 <<< 8)
  crcBit (crcBit (crcBit (crcBit (crcBit (crcBit (crcBit (crcBit c)))))))

/-- The frame check: initial value 0xFFFF, no final exclusive-or (R177). -/
def crc16 (bs : List Byte) : BitVec 16 := bs.foldl crcByte 0xFFFF

/-- A frame: sync, kind, tag, body length, body, check over all but the sync (Table 11-1). -/
def frameBytes (kind tag : Byte) (body : List Byte) : List Byte :=
  let inner := kind :: tag :: (leBytes 2 body.length ++ body)
  0x5A :: (inner ++ leBytes 2 (crc16 inner).toNat)

/-! ## Byte memories -/

/-- The byte at an address; an unlisted address reads as 0 (log entry 5). -/
def Mem.read : Mem → Nat → Byte
  | [], _ => 0
  | (k, b) :: r, a => if k = a then b else Mem.read r a

/-- Write one byte, keeping the canonical form: a written 0 is not listed. -/
def Mem.write : Mem → Nat → Byte → Mem
  | [], a, b => if b = 0 then [] else [(a, b)]
  | (k, c) :: r, a, b =>
    if a < k then (if b = 0 then (k, c) :: r else (a, b) :: (k, c) :: r)
    else if a = k then (if b = 0 then r else (k, b) :: r)
    else (k, c) :: Mem.write r a b

/-- Apply a function that keeps 0 to every byte, keeping the canonical form. -/
def Mem.mapBytes (f : Byte → Byte) : Mem → Mem
  | [] => []
  | (k, b) :: r => if f b = 0 then Mem.mapBytes f r else (k, f b) :: Mem.mapBytes f r

/-- Every entry is at `lo` or above, in strictly rising order, and none is 0. -/
def Mem.wfFrom : Nat → Mem → Bool
  | _, [] => true
  | lo, (k, b) :: r => decide (lo ≤ k) && decide (b ≠ 0) && Mem.wfFrom (k + 1) r

/-- The canonical form: addresses strictly rising, no entry equal to what an unlisted address reads as. -/
def Mem.wf (m : Mem) : Bool := Mem.wfFrom 0 m

/-! ## Tables -/

/-- Apply a function to every entry of a table. -/
def tableMap {α β : Type} {n : Nat} (f : α → β) (v : Vector α n) : Vector β n :=
  ⟨⟨v.toList.map f⟩, by simp⟩

/-! ## Timers -/

def msUs (ms : Nat) : Nat := ms * 1000

/-- A timer started now. -/
def Timer.start (us : Nat) : Timer := ⟨us, 0⟩

/-- One microsecond of a running timer; it stays at its length. -/
def Timer.tick (t : Timer) : Timer := { t with elapsed := if t.elapsed < t.length then t.elapsed + 1 else t.elapsed }

/-! ## What settings stand for (R2, R59, R75) -/

/-- 1, 2 or 5 times a power of ten (R2). -/
def oneTwoFive (i : Nat) : Nat :=
  (match i % 3 with | 0 => 1 | 1 => 2 | _ => 5) * 10 ^ (i / 3)

/-- The value stored for a setting (R1). -/
def Settings.get (v : Settings) : Setting → Int
  | .acqMode => v.acqMode | .acqInterval => v.acqInterval | .acqLength => v.acqLength | .acqSegments => v.acqSegments
  | .enable ch => (v.chan.get ch).enable | .scale ch => (v.chan.get ch).scale | .offset ch => (v.chan.get ch).offset
  | .coupling ch => (v.chan.get ch).coupling | .term ch => (v.chan.get ch).term
  | .trigSource => v.trigSource | .trigType => v.trigType | .trigSlope => v.trigSlope | .trigLevel => v.trigLevel
  | .trigHyst => v.trigHyst | .trigWidthCond => v.trigWidthCond | .trigWidthLo => v.trigWidthLo
  | .trigWidthHi => v.trigWidthHi | .trigHoldoff => v.trigHoldoff | .trigMode => v.trigMode
  | .trigPosition => v.trigPosition
  | .position ch => v.position.get ch
  | .viewStart => v.viewStart | .viewSpan => v.viewSpan | .drawStyle => v.drawStyle | .persistMode => v.persistMode
  | .persistDecay => v.persistDecay | .intensity => v.intensity | .graticule => v.graticule

/-- Store a value for a setting (R1). -/
def Settings.put (v : Settings) (k : Setting) (x : Int) : Settings :=
  match k with
  | .acqMode => { v with acqMode := x }
  | .acqInterval => { v with acqInterval := x }
  | .acqLength => { v with acqLength := x }
  | .acqSegments => { v with acqSegments := x }
  | .enable ch => { v with chan := v.chan.put ch { v.chan.get ch with enable := x } }
  | .scale ch => { v with chan := v.chan.put ch { v.chan.get ch with scale := x } }
  | .offset ch => { v with chan := v.chan.put ch { v.chan.get ch with offset := x } }
  | .coupling ch => { v with chan := v.chan.put ch { v.chan.get ch with coupling := x } }
  | .term ch => { v with chan := v.chan.put ch { v.chan.get ch with term := x } }
  | .trigSource => { v with trigSource := x }
  | .trigType => { v with trigType := x }
  | .trigSlope => { v with trigSlope := x }
  | .trigLevel => { v with trigLevel := x }
  | .trigHyst => { v with trigHyst := x }
  | .trigWidthCond => { v with trigWidthCond := x }
  | .trigWidthLo => { v with trigWidthLo := x }
  | .trigWidthHi => { v with trigWidthHi := x }
  | .trigHoldoff => { v with trigHoldoff := x }
  | .trigMode => { v with trigMode := x }
  | .trigPosition => { v with trigPosition := x }
  | .position ch => { v with position := v.position.put ch x }
  | .viewStart => { v with viewStart := x }
  | .viewSpan => { v with viewSpan := x }
  | .drawStyle => { v with drawStyle := x }
  | .persistMode => { v with persistMode := x }
  | .persistDecay => { v with persistDecay := x }
  | .intensity => { v with intensity := x }
  | .graticule => { v with graticule := x }

/-- interval_ns (R2). -/
def Settings.intervalNs (v : Settings) : Nat := oneTwoFive v.acqInterval.toNat

/-- The record length L = 2^e (R2). -/
def Settings.len (v : Settings) : Nat := 2 ^ v.acqLength.toNat

/-- scale_mV of a channel (R2). -/
def Settings.scaleMv (v : Settings) (ch : Channel) : Nat := oneTwoFive (v.chan.get ch).scale.toNat

/-- The channels whose CHn_ENABLE is 1. -/
def Settings.enabled (v : Settings) : ChSet := v.chan.map fun c => decide (c.enable = 1)

/-- E, the number of enabled channels (R59). -/
def Settings.e (v : Settings) : Nat := v.enabled.count

/-- Q, the pre-trigger depth (R59). -/
def Settings.q (v : Settings) : Nat := min (v.len * v.trigPosition.toNat / 1000) (v.len - 1)

/-- K_eff (R75); 0 when no channel is enabled. -/
def Settings.kEff (v : Settings) : Nat :=
  if v.e = 0 then 0 else min v.acqSegments.toNat (2 ^ 28 / (v.len * v.e))

/-- The trigger source channel, or none for EXT. -/
def Settings.source (v : Settings) : Option Channel := Channel.ofNum? v.trigSource.toNat

end Sys2Proof.Machine
end

