-- ==== Sys2Proof/Machine/Flags.lean ====
section
/-! DEFINITION. The codes of statuses, reasons, kinds, states and settings in frames, and the bodies of notices
(Tables 1-1, 1-2, 11-2 to 11-5; R14, R36, R37, R73, R132, R134, R141, R143, R146, R149, R161, R171, R174, R178, R185, R186). -/

namespace Sys2Proof.Machine

/-- Table 11-4. -/
def Status.code : Status → Byte
  | .ok => 0 | .clamped => 1 | .unknownKind => 2 | .badLength => 3 | .badValue => 4 | .badState => 5 | .busy => 6
  | .queueFull => 7 | .notFound => 8 | .isProtected => 9 | .duplicateTag => 10 | .abandoned => 11 | .tooLate => 12
  | .checkFailed => 13 | .deviceFault => 14 | .starting => 15

/-- Table 11-5. -/
def Reason.code : Reason → Byte
  | .acqRunning => 0 | .calibrating => 1 | .noChannel => 2 | .channelProtected => 3 | .overloadPresent => 4
  | .triggered => 5 | .notRunning => 6 | .noReadout => 7 | .panelDark => 8

/-- Table 11-2. -/
def ReqKind.code : ReqKind → Byte
  | .identify => 0x01 | .echo => 0x02 | .getStatus => 0x03 | .resetPart => 0x04 | .setClock => 0x05
  | .setNoticeMask => 0x06 | .set => 0x10 | .setBatch => 0x11 | .get => 0x12 | .run => 0x14 | .single => 0x15
  | .stop => 0x16 | .forceTrigger => 0x17 | .selfCal => 0x18 | .getCal => 0x19 | .restoreChannel => 0x1A
  | .getHistory => 0x1C | .openReadout => 0x1D | .readChunk => 0x1E | .closeReadout => 0x1F | .clearPersist => 0x20
  | .fillRect => 0x21 | .putText => 0x22 | .putPixels => 0x23 | .endBatch => 0x24 | .setPalette => 0x25
  | .setDisplayPower => 0x26 | .setDisplayTimeouts => 0x27 | .setKeyBinding => 0x28 | .setEncoderBinding => 0x29
  | .setLed => 0x2A | .getPanel => 0x2B | .setAuthority => 0x2C | .answerLocal => 0x2D | .save => 0x30
  | .recall => 0x31 | .erase => 0x32 | .protect => 0x33 | .listSlots => 0x34 | .setAutosave => 0x35

/-- Every request kind, in the order of Table 11-2. -/
def ReqKind.all : List ReqKind :=
  [.identify, .echo, .getStatus, .resetPart, .setClock, .setNoticeMask, .set, .setBatch, .get, .run, .single, .stop,
   .forceTrigger, .selfCal, .getCal, .restoreChannel, .getHistory, .openReadout, .readChunk, .closeReadout,
   .clearPersist, .fillRect, .putText, .putPixels, .endBatch, .setPalette, .setDisplayPower, .setDisplayTimeouts,
   .setKeyBinding, .setEncoderBinding, .setLed, .getPanel, .setAuthority, .answerLocal, .save, .recall, .erase,
   .protect, .listSlots, .setAutosave]

/-- The request kind a kind byte names, if any (R181 step 1). -/
def ReqKind.ofCode? (k : Byte) : Option ReqKind := ReqKind.all.find? fun r => r.code = k

/-- The owning block of a request (R180; Table 11-2's chapters). -/
def ReqKind.owner : ReqKind → Block
  | .identify | .echo | .getStatus | .resetPart | .setClock | .setNoticeMask => .link
  | .set | .setBatch | .get => .sett
  | .run | .single | .stop => .acq
  | .forceTrigger => .trig
  | .selfCal | .getCal | .restoreChannel => .chan
  | .getHistory | .openReadout | .readChunk | .closeReadout => .cap
  | .clearPersist => .rend
  | .fillRect | .putText | .putPixels | .endBatch | .setPalette | .setDisplayPower | .setDisplayTimeouts => .disp
  | .setKeyBinding | .setEncoderBinding | .setLed | .getPanel => .panel
  | .setAuthority | .answerLocal => .auth
  | .save | .recall | .erase | .protect | .listSlots | .setAutosave => .store

/-- Whether a request is answered while start-up has not ended (R181 step 4). -/
def ReqKind.inStartUp : ReqKind → Bool
  | .identify | .echo | .getStatus => true
  | _ => false

/-- The position j of a per-channel setting is given by Table 1-2; ids are 16 + 5(n - 1) + j. -/
def Setting.id : Setting → Nat
  | .acqMode => 1 | .acqInterval => 2 | .acqLength => 3 | .acqSegments => 4
  | .enable ch => 16 + 5 * (ch.num - 1)
  | .scale ch => 16 + 5 * (ch.num - 1) + 1
  | .offset ch => 16 + 5 * (ch.num - 1) + 2
  | .coupling ch => 16 + 5 * (ch.num - 1) + 3
  | .term ch => 16 + 5 * (ch.num - 1) + 4
  | .trigSource => 48 | .trigType => 49 | .trigSlope => 50 | .trigLevel => 51 | .trigHyst => 52
  | .trigWidthCond => 53 | .trigWidthLo => 54 | .trigWidthHi => 55 | .trigHoldoff => 56 | .trigMode => 57
  | .trigPosition => 58
  | .position ch => 63 + ch.num
  | .viewStart => 68 | .viewSpan => 69 | .drawStyle => 70 | .persistMode => 71 | .persistDecay => 72
  | .intensity => 73 | .graticule => 74

/-- The five settings of one channel, in ascending id. -/
def Setting.ofChannel (ch : Channel) : List Setting := [.enable ch, .scale ch, .offset ch, .coupling ch, .term ch]

/-- The 46 settings, in ascending id. -/
def Setting.all : List Setting :=
  [.acqMode, .acqInterval, .acqLength, .acqSegments]
  ++ Setting.ofChannel .ch1 ++ Setting.ofChannel .ch2 ++ Setting.ofChannel .ch3 ++ Setting.ofChannel .ch4
  ++ [.trigSource, .trigType, .trigSlope, .trigLevel, .trigHyst, .trigWidthCond, .trigWidthLo, .trigWidthHi,
      .trigHoldoff, .trigMode, .trigPosition]
  ++ [.position .ch1, .position .ch2, .position .ch3, .position .ch4]
  ++ [.viewStart, .viewSpan, .drawStyle, .persistMode, .persistDecay, .intensity, .graticule]

/-- The setting an id names; none for an unknown id. -/
def Setting.ofId? (id : Nat) : Option Setting := Setting.all.find? fun k => k.id = id

/-- R14. -/
def Origin.code : Origin → Byte
  | .link => 0 | .panel => 1 | .recall => 2 | .startUp => 3 | .derived => 4

/-- R36. -/
def ChanState.code : ChanState → Byte
  | .off => 0 | .on => 1 | .isProtected => 2 | .calibrating => 3

/-- R36. -/
def CalState.code : CalState → Byte
  | .none => 0 | .fresh => 1 | .stale => 2

/-- R34. -/
def TurnOutcome.code : TurnOutcome → Byte
  | .ok => 0 | .outOfRange => 1 | .isProtected => 2 | .settingsChanged => 3

/-- R37. -/
def ChanEvent.code : ChanEvent → Byte
  | .isProtected => 0 | .restored => 1 | .fresh => 2 | .stale => 3

/-- R73. -/
def AcqState.code : AcqState → Byte
  | .stopped => 0 | .arming => 1 | .fillingPre => 2 | .ready => 3 | .fillingPost => 4 | .calibrating => 5

/-- R73. -/
def RunKind.code : RunKind → Byte
  | .continuous => 0 | .sequence => 1 | .single => 2

/-- R73. -/
def AcqEvent.code : AcqEvent → Byte
  | .started => 0 | .stopped => 1 | .calibrating => 2 | .kindChanged => 3

/-- R73; REQUEST is 0, as is the cause of every other event. -/
def StopCause.code : StopCause → Byte
  | .request => 0 | .stopAtCompletion => 1 | .singleDone => 2 | .sequenceComplete => 3 | .calibrationEnded => 4
  | .noChannel => 5

/-- R189. -/
def MemPower.code : MemPower → Byte
  | .active => 0 | .retention => 1 | .waking => 2

/-- R132. -/
def Power.code : Power → Byte
  | .blank => 0 | .poweringUp => 1 | .on => 2 | .dim => 3 | .poweringDown => 4

/-- R134. -/
def DispEvent.code : DispEvent → Byte
  | .on => 0 | .blank => 1 | .wake => 2

/-- R134. -/
def Cause.code : Cause → Byte
  | .request => 0 | .timeout => 1 | .activity => 2 | .startUp => 3

/-- R143. -/
def KeyEvent.code : KeyEvent → Byte
  | .press => 0 | .release => 1 | .repeat => 2 | .long => 3

/-- R143. -/
def KeyOutcome.code : KeyOutcome → Byte
  | .reported => 0 | .done => 1 | .refused => 2 | .failed => 3

/-- R141. -/
def KeyAction.code : KeyAction → Byte
  | .report => 0 | .runStop => 1 | .single => 2 | .force => 3 | .clearPersist => 4
  | .restore ch => BitVec.ofNat 8 (4 + ch.num)
  | .saveSlot _ => 9 | .recallSlot _ => 10 | .localRequest => 11

/-- The slot an action carries; 0 where it carries none (R152). -/
def KeyAction.slot : KeyAction → Nat
  | .saveSlot n => n | .recallSlot n => n | _ => 0

/-- R146. -/
def EncTarget.code : EncTarget → Byte
  | .report => 0 | .trigLevel => 1 | .trigHyst => 2 | .position _ => 3 | .scale _ => 4 | .viewStart => 5
  | .viewSpan => 6 | .intensity => 7 | .persistDecay => 8

/-- The channel a target carries; 0 where it carries none (R152). -/
def EncTarget.channel : EncTarget → Nat
  | .position ch => ch.num | .scale ch => ch.num | _ => 0

/-- R151. -/
def LampState.code : LampState → Byte
  | .off => 0 | .on => 1 | .slow => 2 | .fast => 3

/-- Table 8-4. -/
def LampSource.code : LampSource → Byte
  | .link => 0 | .running => 1 | .stopped => 2 | .singleArmed => 3
  | .chanOn ch => BitVec.ofNat 8 (3 + ch.num)
  | .chanProtected ch => BitVec.ofNat 8 (7 + ch.num)
  | .localSet => 12 | .storeBusy => 13 | .anyStale => 14

/-- The authority set as frames write it (section 9.1). -/
def AuthSet.bits (g : AuthSet) : Nat :=
  g.acquisition.toNat + 2 * g.trigger.toNat + 4 * g.display.toNat + 8 * g.store.toNat

/-- R161. -/
def LocalEvent.code : LocalEvent → Byte
  | .requested => 0 | .granted => 1 | .denied => 2 | .timedOut => 3 | .overridden => 4 | .resolved => 5

/-- R161. -/
def LocalState.code : LocalState → Byte
  | .idle => 0 | .requested => 1 | .denied => 2

/-- R174. -/
def OpKind.code : OpKind → Byte
  | .save => 0 | .recall => 1 | .erase => 2 | .protect => 3 | .autosave => 4 | .calWrite => 5

/-- R174. -/
def OpOrigin.code : OpOrigin → Byte
  | .link => 0 | .panel => 1 | .auto => 2 | .cal => 3

/-- R171. -/
def SlotState.code : SlotState → Byte
  | .empty => 0 | .valid => 1 | .bad => 2 | .writing => 3

/-- R171. -/
def SaveOrigin.code : SaveOrigin → Byte
  | .link => 0 | .panel => 1 | .auto => 2

/-- R178. -/
def LinkCause.code : LinkCause → Byte
  | .released => 0 | .length => 1 | .check => 2 | .noRoom => 3

/-! ## Notices -/

/-- The number j of a notice's kind 0x60 + j (Table 11-3). -/
def Notice.kindNo : Notice → Nat
  | .ready .. => 0 | .key .. => 1 | .encoder .. => 2 | .setting .. => 3 | .segment .. => 4 | .acqState .. => 5
  | .channel .. => 6 | .localReq .. => 7 | .store .. => 8 | .display .. => 9 | .linkError .. => 10 | .overflow .. => 11

/-- The kind byte of a notice. -/
def Notice.kindByte (n : Notice) : Byte := BitVec.ofNat 8 (0x60 + n.kindNo)

/-- Whether a notice takes one of the 10 shared places (R183). -/
def Notice.isShared : Notice → Bool
  | .encoder .. | .setting .. | .segment .. | .linkError .. => false
  | _ => true

/-- Whether two coalescing notices have one subject (R183). -/
def Notice.sameSubject : Notice → Notice → Bool
  | .encoder e .., .encoder e' .. => e == e'
  | .setting k .., .setting k' .. => k == k'
  | .segment .., .segment .. => true
  | .linkError .., .linkError .. => true
  | _, _ => false

/-- Merge a new notice into the standing entry of its subject (R14, R73, R149, R178). -/
def Notice.merge : Notice → Notice → Notice
  | .encoder e sum refused _, .encoder _ delta refused' target =>
    .encoder e (clampInt (sum + delta) (-32767) 32767) (refused || refused') target
  | .setting _ _ _, .setting k v o => .setting k v o
  | .segment _ _ n, .segment seq gen _ => .segment seq gen (satSucc 65535 n)
  | .linkError _ n _, .linkError errors _ cause => .linkError errors (satSucc 65535 n) cause
  | old, _ => old

/-- The body of a notice, as its owning rule gives it. -/
def Notice.body : Notice → List Byte
  | .ready image cal bad => [Byte.ofBool image, Byte.ofBool cal, BitVec.ofNat 8 bad]
  | .key k ev stamp action outcome status =>
    [BitVec.ofNat 8 k, ev.code] ++ leBytes 2 stamp.toNat ++ [action.code, outcome.code, status.code]
  | .encoder e sum refused target => [BitVec.ofNat 8 e] ++ leInt 2 sum ++ [Byte.ofBool refused, target.code]
  | .setting k v o => [BitVec.ofNat 8 k.id] ++ leInt 8 v ++ [o.code]
  | .segment seq gen n => leBytes 6 seq ++ leBytes 2 gen.toNat ++ leBytes 2 n
  | .acqState ev cause st kind gen seq =>
    [ev.code, cause.code, st.code, kind.code] ++ leBytes 2 gen.toNat ++ leBytes 6 seq
  | .channel ch ev st latch cal d =>
    [BitVec.ofNat 8 ch.num, ev.code, st.code, Byte.ofBool latch, cal.code] ++ leInt 1 d
  | .localReq ev set st override => [ev.code, BitVec.ofNat 8 set.bits, st.code, Byte.ofBool override]
  | .store op origin slot status st n =>
    [op.code, origin.code, BitVec.ofNat 8 slot, status.code, st.code] ++ leBytes 2 n
  | .display ev cause power => [ev.code, cause.code, power.code]
  | .linkError errors merged cause => leBytes 2 errors ++ leBytes 2 merged ++ [cause.code]
  | .overflow lost => leBytes 2 lost

/-! ## Statuses of panel actions -/

/-- R142: OK and CLAMPED mean done; any other status means failed. -/
def Status.isDone : Status → Bool
  | .ok | .clamped => true
  | _ => false

end Sys2Proof.Machine
end

