-- ==== Sys2Proof/Machine/Operands.lean ====
section
/-! DEFINITION. The bodies of requests: which lengths each request's rule answers BAD_LENGTH (R181 step 2), and the
items its rule reads from the body; `none` where the rule answers BAD_VALUE. -/

namespace Sys2Proof.Machine

/-- The runs of a PUT_PIXELS body: count (its byte plus one) and colour index (R122). -/
def runsOf : List Byte → List (Nat × Byte)
  | c :: i :: r => (c.toNat + 1, i) :: runsOf r
  | _ => []

/-- How many pixels runs cover. -/
def runsTotal (runs : List (Nat × Byte)) : Nat := (runs.map Prod.fst).sum

/-- The `n` pairs of id and value of a SET_BATCH body after its count (R11). -/
def pairsOf : Nat → List Byte → List (Nat × Int)
  | 0, _ => []
  | n + 1, bs => ((byteAt bs 0).toNat, ofLeSigned (slice bs 1 8)) :: pairsOf n (bs.drop 9)

/-- Width and height of a PUT_PIXELS body. -/
def pixelsW (body : List Byte) : Nat := ofLe (slice body 4 2)
def pixelsH (body : List Byte) : Nat := ofLe (slice body 6 2)

/-- The body lengths that each request's own rule answers with BAD_LENGTH (R181 step 2). -/
def ReqKind.badLength (k : ReqKind) (body : List Byte) : Bool :=
  let n := body.length
  match k with
  | .identify | .getStatus | .resetPart | .run | .single | .stop | .forceTrigger | .getCal | .readChunk
  | .closeReadout | .clearPersist | .endBatch | .getPanel | .listSlots => n != 0
  | .echo => decide (1023 < n)
  | .setClock | .setPalette | .setDisplayTimeouts | .setKeyBinding => n != 4
  | .setNoticeMask | .setAuthority | .protect => n != 2
  | .set | .fillRect => n != 9
  | .setBatch =>
    let c := (byteAt body 0).toNat
    !(decide (1 ≤ c) && decide (c ≤ 16) && n == 1 + 9 * c)
  | .get => decide (46 < n)
  | .selfCal | .restoreChannel | .answerLocal | .recall | .erase | .setAutosave => n != 1
  | .getHistory => n != 6
  | .openReadout => n != 17
  | .putText => decide (n < 7) || decide (102 < n)
  | .putPixels =>
    decide (n < 8) || (n % 2 != 0) || runsTotal (runsOf (body.drop 8)) != pixelsW body * pixelsH body
  | .setDisplayPower | .setEncoderBinding | .setLed => n != 3
  | .save => decide (n < 1) || decide (17 < n)

/-! ## SELF_CAL and RESTORE_CHANNEL -/

/-- The set of channels that a sum of 1, 2, 4 and 8 names (R30). -/
def ChSet.ofBits (n : Nat) : ChSet := ⟨n.testBit 0, n.testBit 1, n.testBit 2, n.testBit 3⟩

/-- The authority set that a byte names (section 9.1). -/
def AuthSet.ofBits (n : Nat) : AuthSet := ⟨n.testBit 0, n.testBit 1, n.testBit 2, n.testBit 3⟩

/-! ## OPEN_READOUT (R84) -/

structure ReadoutArgs where
  seq    : Nat
  ch     : Nat
  start  : Nat
  count  : Nat
  stride : Nat
  deriving DecidableEq, Repr

def readoutArgs (body : List Byte) : ReadoutArgs :=
  { seq := ofLe (slice body 0 6), ch := (byteAt body 6).toNat, start := ofLe (slice body 7 4)
    count := ofLe (slice body 11 4), stride := ofLe (slice body 15 2) }

/-! ## Overlay commands (R120 to R122) -/

/-- R120: an index above 15 is BAD_VALUE. -/
def fillRectArgs (body : List Byte) : Option Overlay :=
  if 15 < (byteAt body 8).toNat then none
  else some (.fillRect (ofLeSigned (slice body 0 2)) (ofLeSigned (slice body 2 2)) (ofLe (slice body 4 2))
    (ofLe (slice body 6 2)) (byteAt body 8))

/-- R121: a text or background index above 15 is BAD_VALUE. -/
def putTextArgs (body : List Byte) : Option Overlay :=
  if 15 < (byteAt body 4).toNat || 15 < (byteAt body 5).toNat then none
  else some (.putText (ofLeSigned (slice body 0 2)) (ofLeSigned (slice body 2 2)) (byteAt body 4) (byteAt body 5)
    (body.drop 6))

/-- R122: a run whose index is above 15 is BAD_VALUE. -/
def putPixelsArgs (body : List Byte) : Option Overlay :=
  let runs := runsOf (body.drop 8)
  if runs.any (fun r => 15 < r.2.toNat) then none
  else some (.putPixels (ofLeSigned (slice body 0 2)) (ofLeSigned (slice body 2 2)) (pixelsW body) (pixelsH body) runs)

/-! ## Bindings and lamps (R141, R146, R151) -/

/-- The action that a code and a slot name (R141). -/
def keyActionOf (code slot : Nat) : Option KeyAction :=
  match code with
  | 0 => some .report
  | 1 => some .runStop
  | 2 => some .single
  | 3 => some .force
  | 4 => some .clearPersist
  | 5 => some (.restore .ch1)
  | 6 => some (.restore .ch2)
  | 7 => some (.restore .ch3)
  | 8 => some (.restore .ch4)
  | 9 => if 1 ≤ slot && slot ≤ 31 then some (.saveSlot slot) else none
  | 10 => if slot ≤ 31 then some (.recallSlot slot) else none
  | 11 => some .localRequest
  | _ => none

/-- The key number and binding of a SET_KEY_BINDING body (R141). -/
def keyBindingArgs (body : List Byte) : Option (Nat × KeyBinding) :=
  let key := (byteAt body 0).toNat
  let flags := (byteAt body 3).toNat
  if 63 < key || 3 < flags then none
  else (keyActionOf (byteAt body 1).toNat (byteAt body 2).toNat).map fun a =>
    (key, ⟨a, flags.testBit 0, flags.testBit 1⟩)

/-- The target that a code and a channel number name (R146). -/
def encTargetOf (code ch : Nat) : Option EncTarget :=
  match code with
  | 0 => some .report
  | 1 => some .trigLevel
  | 2 => some .trigHyst
  | 3 => (Channel.ofNum? ch).map .position
  | 4 => (Channel.ofNum? ch).map .scale
  | 5 => some .viewStart
  | 6 => some .viewSpan
  | 7 => some .intensity
  | 8 => some .persistDecay
  | _ => none

/-- The encoder number and target of a SET_ENCODER_BINDING body (R146). -/
def encBindingArgs (body : List Byte) : Option (Nat × EncTarget) :=
  let enc := (byteAt body 0).toNat
  if 5 < enc then none
  else (encTargetOf (byteAt body 1).toNat (byteAt body 2).toNat).map fun t => (enc, t)

/-- The lamp source of a code (Table 8-4). -/
def lampSourceOf (code : Nat) : Option LampSource :=
  match code with
  | 0 => some .link
  | 1 => some .running
  | 2 => some .stopped
  | 3 => some .singleArmed
  | 4 => some (.chanOn .ch1)
  | 5 => some (.chanOn .ch2)
  | 6 => some (.chanOn .ch3)
  | 7 => some (.chanOn .ch4)
  | 8 => some (.chanProtected .ch1)
  | 9 => some (.chanProtected .ch2)
  | 10 => some (.chanProtected .ch3)
  | 11 => some (.chanProtected .ch4)
  | 12 => some .localSet
  | 13 => some .storeBusy
  | 14 => some .anyStale
  | _ => none

/-- The lamp state of a code (R151). -/
def lampStateOf (code : Nat) : Option LampState :=
  match code with
  | 0 => some .off | 1 => some .on | 2 => some .slow | 3 => some .fast | _ => none

/-- What an accepted SET_LED sets (R151). -/
inductive LedArgs where
  | lamp (n : Nat) (l : Lamp)
  | brightness (b : Nat)
  deriving DecidableEq, Repr

def ledArgs (body : List Byte) : Option LedArgs :=
  let a := (byteAt body 0).toNat
  let b := (byteAt body 1).toNat
  let c := (byteAt body 2).toNat
  if a ≤ 31 then
    match lampSourceOf b, lampStateOf c with
    | some .link, some st => some (.lamp a ⟨.link, st⟩)
    | some src, some _ => some (.lamp a ⟨src, .off⟩)
    | _, _ => none
  else if a = 255 then (if c = 0 then some (.brightness b) else none)
  else none

/-! ## Store requests (R166) -/

/-- Whether a byte is a character of a slot name (R163). -/
def isNameChar (b : Byte) : Bool := decide (0x20 ≤ b.toNat) && decide (b.toNat ≤ 0x7E)

/-- Slot and name of a SAVE body; the slot must be 1 to 31 (Table 10-1). -/
def saveArgs (body : List Byte) : Option (Nat × List Byte) :=
  let slot := (byteAt body 0).toNat
  if 1 ≤ slot && slot ≤ 31 && (body.drop 1).all isNameChar then some (slot, body.drop 1) else none

/-- Slot of a RECALL or ERASE body (Table 10-1). -/
def slotArg (body : List Byte) : Option Nat :=
  let slot := (byteAt body 0).toNat
  if slot ≤ 31 then some slot else none

/-- A byte that must be 0 or 1. -/
def boolArg (b : Byte) : Option Bool :=
  if b = 0 then some false else if b = 1 then some true else none

/-- Slot and value of a PROTECT body (Table 10-1). -/
def protectArgs (body : List Byte) : Option (Nat × Bool) :=
  match slotArg body, boolArg (byteAt body 1) with
  | some slot, some on => some (slot, on)
  | _, _ => none

end Sys2Proof.Machine
end

