-- ==== Sys2Proof/Machine/LinkOps.lean ====
section
/-! DEFINITION. What every block asks of LINK: presenting a notice (R183), queuing a reply (R179, R181), taking a
request frame through its checks (R180, R181), counting a link error (R178). -/

namespace Sys2Proof.Machine

/-- Shared places in use (R183). -/
def Link.sharedUsed (l : Link) : Nat := (l.notices.filter Notice.isShared).length

/-- Merge a notice into the first entry of its subject. -/
def mergeNotice (n : Notice) : List Notice → List Notice
  | [] => []
  | m :: r => if m.sameSubject n then m.merge n :: r else m :: mergeNotice n r

/-- R183 on a notice whose kind the mask lets pass. -/
def Link.enqueue (l : Link) (n : Notice) : Link :=
  if n.isShared then
    if l.sharedUsed < 10 then { l with notices := l.notices ++ [n] } else { l with lost := satSucc 65535 l.lost }
  else if l.notices.any (fun m => m.sameSubject n) then { l with notices := mergeNotice n l.notices }
  else { l with notices := l.notices ++ [n] }

/-- A block presents a notice: a masked kind is not queued, not merged and not counted as lost (R183). -/
def Link.present (l : Link) (n : Notice) : Link :=
  if l.mask.getLsbD n.kindNo then l.enqueue n else l

def State.present (s : State) (n : Notice) : State := s.setLink (s.link.present n)

/-- A link error: the count rises, stopping at 65535, and a LINK_ERROR notice is presented (R178). The merged count of a
new entry begins at 1 (DESIGN CHOICE, log entry 49). -/
def Link.error (l : Link) (cause : LinkCause) : Link :=
  let l := { l with errors := satSucc 65535 l.errors }
  l.present (.linkError l.errors 1 cause)

/-- The places LINK counts as used (R180). -/
def Link.used (l : Link) : Nat := l.replies.length + l.table.length

/-- The reply frame of a request (R179). -/
def replyFrame (kind tag : Byte) (body : List Byte) : Reply := ⟨kind + 0x80, tag, body⟩

/-- LINK's own answer, given without entering the request in the table (R181). -/
def Link.answer (l : Link) (kind tag : Byte) (body : List Byte) : Link :=
  { l with replies := l.replies ++ [replyFrame kind tag body] }

/-- The owner queues the reply to the pending request with this tag: the entry leaves the table and the reply frame
joins the queue (R181). A tag with no entry gets no reply: its request was dropped by a reset (R187). -/
def Link.reply (l : Link) (tag : Byte) (body : List Byte) : Link :=
  match l.table.find? (fun p => p.tag = tag) with
  | some p => { l with table := l.table.eraseP (fun p => p.tag = tag)
                       replies := l.replies ++ [replyFrame p.kind.code tag body] }
  | none => l

def State.reply (s : State) (tag : Byte) (body : List Byte) : State := s.setLink (s.link.reply tag body)

/-- A reply whose body is its status alone. -/
def State.replyStatus (s : State) (tag : Byte) (st : Status) : State := s.reply tag [st.code]

/-- A BAD_STATE reply carries its reason and nothing more (R179). -/
def State.replyBadState (s : State) (tag : Byte) (r : Reason) : State := s.reply tag [Status.badState.code, r.code]

/-- The answer of the first check of R181 that applies, for a request kind; none when the request goes to its owner. -/
def Link.check (l : Link) (k : ReqKind) (tag : Byte) (body : List Byte) : Option Status :=
  if k.badLength body then some .badLength
  else if l.table.any (fun p => p.tag = tag) then some .duplicateTag
  else if !l.started && !k.inStartUp then some .starting
  else if 8 ≤ l.table.length then some .busy
  else none

/-- A valid request frame reaches LINK: ignored while the receiver ignores every byte (R178), discarded as a link
error when 16 places are used (R180), answered by the first check that applies (R181), or entered in the table
and handed to its owner, which takes it in the same step (DESIGN CHOICE, log entry 50). -/
def State.request (s : State) (k : ReqKind) (tag : Byte) (body : List Byte) (owner : State → Result) : Result :=
  if s.link.rx = .ignoring then .next s
  else if 16 ≤ s.link.used then .next (s.setLink (s.link.error .noRoom))
  else match s.link.check k tag body with
    | some st => .next (s.setLink (s.link.answer k.code tag [st.code]))
    | none => owner (s.setLink { s.link with table := s.link.table ++ [⟨tag, k⟩] })

end Sys2Proof.Machine
end

