-- ==== Sys2Proof/Machine/CaptureOps.lean ====
section
/-! DEFINITION. The capture cycle: what TRIG, ACQ, CAP and REND do to one another (chapters 3 to 6). -/

namespace Sys2Proof.Machine

/-! ## Channel state (R18) -/

/-- Table 2-1, first row that applies. -/
def State.chanState (s : State) (ch : Channel) : ChanState :=
  if s.chans.selfCal.any (fun c => c.turn = ch) then .calibrating
  else if (s.sett.vals.chan.get ch).enable = 0 then .off
  else if (s.chans.unit.get ch).latch then .isProtected
  else .on

/-! ## TRIG: codes, limits, timers (R39 to R42, R47, R50, R51) -/

/-- Both detectors DISARMED and the width measurement none (R39). -/
def Trig.disarm (t : Trig) : Trig := { t with rising := false, falling := false, width := none }

/-- Holdoff EXPIRED, auto timer STOPPED, no force pending: entry to STOPPED and abandonment (R50, R51, R54). -/
def Trig.giveUp (t : Trig) : Trig := { t with holdoff := none, auto := none, force := false }

/-- The unlimited comparator code of a channel source (R40). -/
def rawCode (v : Settings) (ch : Channel) (d : Int) : Int :=
  128 - d + roundAway ((v.trigLevel + (v.chan.get ch).offset) * 32) (v.scaleMv ch * 1000)

/-- The unlimited ladder code of the EXT source (R42). -/
def rawLadder (v : Settings) : Int := roundAway ((v.trigLevel + 5000000) * 255) 10000000

/-- Compute the comparator code or the ladder code, and the level-limited flag, from the values standing (R40 to R42). -/
def State.recode (s : State) : State :=
  let v := s.sett.vals
  match v.source with
  | some ch =>
    let raw := rawCode v ch (s.chans.unit.get ch).d
    let lc := clampInt raw v.trigHyst (255 - v.trigHyst)
    s.setTrig { s.trig with lc := lc, limited := decide (raw ≠ lc) }
  | none =>
    let code := clampInt (rawLadder v) 0 255
    s.setTrig { s.trig with ladder := code, limited := decide (rawLadder v ≠ code) }

/-- A width in ns as samples (R47). -/
def widthSamples (ns : Int) (intervalNs : Nat) : Int := max 1 (roundAway ns intervalNs)

/-- Compute lo_s and hi_s from the values standing (R47). -/
def State.relimit (s : State) : State :=
  let v := s.sett.vals
  s.setTrig { s.trig with loS := widthSamples v.trigWidthLo v.intervalNs, hiS := widthSamples v.trigWidthHi v.intervalNs }

/-- auto_ms (R51). -/
def autoMs (v : Settings) : Nat := min 60000 (max 100 (ceilDiv (2 * v.len * v.intervalNs) 1000000))

/-- The holdoff timer as it starts; with TRIG_HOLDOFF 0 it expires as it starts (R50). -/
def holdoffStart (v : Settings) : Option Timer :=
  if v.trigHoldoff.toNat = 0 then none else some (Timer.start v.trigHoldoff.toNat)

/-! ## Memory power (R89, R90) -/

/-- ACQ is running (section 4 of chapter 4's opening: ARMING, FILLING_PRE, READY, FILLING_POST). -/
def AcqState.isRunning : AcqState → Bool
  | .arming | .fillingPre | .ready | .fillingPost => true
  | .stopped | .calibrating => false

/-- The filling states (R39). -/
def AcqState.isFilling : AcqState → Bool
  | .fillingPre | .ready | .fillingPost => true
  | _ => false

/-- A readout is open in OPENING and OPEN (section 5.6). -/
def Readout.isOpen : Readout → Bool
  | .opening .. | .opened _ => true
  | .closed | .abandoned => false

/-- The four conditions of R89, and that start-up has ended. -/
def State.retentionDue (s : State) : Bool :=
  !s.acq.state.isRunning && !s.cap.readout.isOpen && s.rend.pass.isNone && s.disp.power == .blank && s.link.started

/-- CAP examines the conditions for RETENTION (R89). -/
def State.examineMemory (s : State) : State :=
  if s.cap.power = .active ∧ s.retentionDue then s.setCap { s.cap with power := .retention } else s

/-- A wake begins from RETENTION (R90). -/
def State.beginWake (s : State) : State :=
  if s.cap.power = .retention then s.setCap { s.cap with power := .waking } else s

/-! ## Triggers (R49, R52 to R54, R64, R65) -/

/-- A trigger is accepted in READY (R49, R65). Its sample is the next one to be placed (`awaiting`): the sample being
taken, for a comparator trigger of a channel, or the first that follows. -/
def State.acceptTrigger (s : State) (by_ : Forced) : State :=
  let s := s.setTrig { s.trig with auto := none, lastForced := by_, holdoff := holdoffStart s.sett.vals }
  let s := s.setAcq { s.acq with state := .fillingPost, trigTime := s.acq.base, forced := decide (by_ ≠ .no) }
  s.setCap { s.cap with awaiting := true, post := 0, oldest := if s.acq.q = 0 then 0 else s.cap.pre % s.acq.q }

/-- The auto timer started afresh (R51). -/
def State.startAuto (s : State) : State :=
  s.setTrig { s.trig with auto := some (Timer.start (msUs (autoMs s.sett.vals))) }

/-- ACQ enters READY; TRIG takes a pending force, or starts its auto timer in AUTO mode (R51, R54, R64). -/
def State.enterReady (s : State) : State :=
  let s := s.setAcq { s.acq with state := .ready }
  if s.trig.force then
    let s := s.setTrig { s.trig with force := false }
    s.acceptTrigger .byRequest
  else if s.sett.vals.trigMode = 0 then s.startAuto
  else s

/-- Pre-trigger depth reached (R64): with the holdoff timer EXPIRED ACQ enters READY, and otherwise waits for it. -/
def State.reachDepth (s : State) : State :=
  let s := s.setAcq { s.acq with depth := true }
  if s.trig.holdoff.isNone then s.enterReady else s

/-! ## ACQ and CAP: segments (R63, R64, R76 to R81) -/

def Segment.isFree : Segment → Bool
  | .free => true
  | _ => false

/-- COMPLETE with no hold. -/
def Segment.isUnheld : Segment → Bool
  | .complete f => !f.draw && !f.read
  | _ => false

/-- Present and invalid set of a FILLING segment. -/
def Segment.fillSets : Segment → ChSet × ChSet
  | .filling p i => (p, i)
  | _ => (Quad.fill false, Quad.fill false)

def Cap.seg (c : Cap) (i : Nat) : Segment := c.segs.getD i .free

def Cap.putSeg (c : Cap) (i : Nat) (x : Segment) : Cap := { c with segs := c.segs.set i x }

/-- The choice rule of R78. -/
def Cap.choose (c : Cap) (kind : RunKind) : Option Nat :=
  match c.segs.findIdx? Segment.isFree with
  | some i => some i
  | none => if kind = .sequence then none else c.history.find? fun i => (c.seg i).isUnheld

/-- An ACQ_STATE notice with ACQ's state as it stands (R73). -/
def State.acqNotice (s : State) (ev : AcqEvent) (cause : StopCause) : State :=
  s.present (.acqState ev cause s.acq.state s.acq.kind s.sett.gen s.acq.seq)

/-- ACQ enters STOPPED for a cause (R50, R51, R54, R67, R73, R89). -/
def State.enterStopped (s : State) (cause : StopCause) : State :=
  let s := s.setAcq { s.acq with state := .stopped, stopPending := false, inFlight := none, depth := false }
  let s := s.setTrig s.trig.disarm.giveUp
  let s := s.setCap { s.cap with waiting := false }
  (s.acqNotice .stopped cause).examineMemory

/-- Channels whose protection latch is set. -/
def State.latched (s : State) : ChSet := s.chans.unit.map ChanUnit.latch

/-- A segment is given to ACQ: it leaves the history, becomes FILLING with the channels enabled now, and ACQ enters
FILLING_PRE with it in flight; with Q = 0 the depth is reached at the entry (R63, R64, R76, R78, R79). -/
def State.giveSegment (s : State) (i : Nat) : State :=
  let present := s.sett.vals.enabled
  let cap := (s.cap.putSeg i (.filling present (present.inter s.latched)))
  let s := s.setCap { cap with history := cap.history.filter (· ≠ i), waiting := false
                               pre := 0, post := 0, awaiting := false, oldest := 0 }
  let s := s.setTrig { s.trig with index := 0, candHere := false }
  let s := s.setAcq { s.acq with state := .fillingPre, inFlight := some i, depth := false }
  if s.acq.q = 0 then s.reachDepth else s

/-- ACQ asks CAP for a segment (R63, R78). -/
def State.requestSegment (s : State) : State :=
  match s.cap.choose s.acq.kind with
  | some i => s.giveSegment i
  | none =>
    if s.acq.kind = .sequence then s.enterStopped .sequenceComplete
    else s.setCap { s.cap with waiting := true }

/-- ACQ enters ARMING and computes E and Q (R59); TRIG disarms (R39). -/
def State.toArming (s : State) : State :=
  let s := s.setAcq { s.acq with state := .arming, inFlight := none, depth := false
                                 e := s.sett.vals.e, q := s.sett.vals.q }
  s.setTrig s.trig.disarm

/-- The steps of R63: with the memory ACTIVE ask for a segment, otherwise wait. -/
def State.seekSegment (s : State) : State :=
  if s.cap.power = .active then s.requestSegment else s

/-- A hold leaves a COMPLETE segment; whether CAP tells ACQ, which it does if that leaves the segment unheld and ACQ waits
for one (R81). -/
def State.dropHold (s : State) (draw : Bool) (i : Nat) : State × Bool :=
  match s.cap.seg i with
  | .complete f =>
    let f := if draw then { f with draw := false } else { f with read := false }
    (s.setCap (s.cap.putSeg i (.complete f)), !f.draw && !f.read && s.cap.waiting)
  | _ => (s, false)

/-- A hold is released; an ACQ that is told asks again (R81). -/
def State.releaseHold (s : State) (draw : Bool) (i : Nat) : State :=
  let dropped := s.dropHold draw i
  if dropped.2 then dropped.1.requestSegment else dropped.1

/-! ## REND: beginning, ending and abandoning a pass (R93, R94, R103, R105, R108) -/

/-- Whether the panel is lit (R93, R125). -/
def Power.isLit : Power → Bool
  | .on | .dim => true
  | _ => false

/-- Any sequence number counts as greater than none (R93). -/
def newerThan (seq : Nat) : Option Nat → Bool
  | none => true
  | some last => decide (last < seq)

/-- The drawn set of a segment (R94). -/
def State.drawnSet (s : State) (f : Filed) : ChSet :=
  Quad.of fun ch => f.present.get ch && !f.invalid.get ch && s.chanState ch == .on

/-- The pass record of a pass that begins now (R94, Table 6-1). -/
def State.newPass (s : State) (i : Nat) (f : Filed) : Pass :=
  let v := s.sett.vals
  { seq := f.seq, seg := i, next := 0, d := s.chans.unit.map ChanUnit.d, p := v.position
    s := v.viewStart.toNat, w := v.viewSpan.toNat, style := v.drawStyle, h := v.intensity.toNat
    drawn := s.drawnSet f, span := Quad.fill none, above := Quad.fill false, below := Quad.fill false }

/-- The entry that REND names: the newest of the history, if the conditions of R93 hold (R93, R94). -/
def State.drawNamed (s : State) : Option Nat :=
  if s.rend.pass.isNone && s.disp.power.isLit then
    s.cap.history.getLast?.filter fun i => match s.cap.seg i with
      | .complete f => newerThan f.seq s.rend.lastDrawn
      | _ => false
  else none

/-- REND asks CAP for a DRAW hold on the entry it has named (R81, R94). Granted, the pass begins; refused (none), the segment
has left COMPLETE. -/
def State.askDraw (s : State) (i : Nat) : Option State :=
  match s.cap.seg i with
  | .complete f =>
    let s := s.setCap (s.cap.putSeg i (.complete { f with draw := true }))
    some (s.setRend { s.rend with pass := some (s.newPass i f) })
  | _ => none

/-- REND examines the conditions of R93, and begins a pass on the newest history entry if they hold (R94). -/
def State.examineDraw (s : State) : State :=
  match s.drawNamed with
  | some i => (s.askDraw i).getD s
  | none => s

/-- REND examines the conditions of R93 while ACQ asks CAP for a segment. Where ACQ's request is not for the entry that REND
names, both have what they ask for. Where it is, CAP takes the two in either order (R78, a free value, log entry 52): the
hold first, and ACQ is given another segment or none; or the segment first, and REND is refused and examines the conditions
again, against the history as it then stands (R94). -/
def State.contend (s : State) (ask : State → State) : State :=
  match s.drawNamed with
  | none => ask s
  | some i =>
    match (ask s).askDraw i with
    | some t => t
    | none => (if Config.holdFirst s.races then ask s.examineDraw else (ask s).examineDraw).setRaces (s.races + 1)

/-- The end of a pass (R103, R104). ACQ, if the release serves it, takes its segment before REND examines the conditions of
R93; the other order comes to the same (DEDUCED, log entry 46). -/
def State.endPass (s : State) (p : Pass) : State :=
  let s := s.releaseHold true p.seg
  let s := s.setRend { s.rend with pass := none, lastDrawn := some p.seq
                                   above := p.drawn.inter p.above, below := p.drawn.inter p.below }
  s.examineMemory.examineDraw

/-- REND takes a redraw naming some maps (R105, R108). Where the release of the hold tells a waiting ACQ, ACQ asks for a
segment while REND examines the conditions of R93. -/
def State.redraw (s : State) (named : ChSet) : State :=
  let dropped := match s.rend.pass with
    | some p => s.dropHold true p.seg
    | none => (s, false)
  let r := s.rend
  let s := dropped.1.setRend
    { r with pass := none, lastDrawn := none
             maps := Quad.of fun ch => if named.get ch then [] else r.maps.get ch
             above := Quad.of fun ch => !named.get ch && r.above.get ch
             below := Quad.of fun ch => !named.get ch && r.below.get ch }
  let s := s.examineMemory
  if dropped.2 then s.contend State.requestSegment else s.examineDraw

/-- REND takes a restart (R105, R108); CAP has released the holds with it. -/
def State.rendRestart (s : State) : State :=
  (s.setRend Rend.reset).examineMemory.examineDraw

/-! ## Readout (R84 to R88) -/

/-- An OPENING readout ends before its wake: its deferred reply is queued with ABANDONED, and the waiting READ_CHUNKs
are answered BAD_STATE, NO_READOUT, in order (R86, R88). -/
def State.closeOpening (s : State) (tag : Byte) (waiting : List Byte) : State :=
  waiting.foldl (fun s t => s.replyBadState t .noReadout) (s.replyStatus tag .abandoned)

/-- A restart abandons an open readout (R88). The deferred replies of one that was OPENING stand before the reply to the
request that restarts (DESIGN CHOICE, log entry 59). -/
def State.abandonReadout (s : State) : State :=
  match s.cap.readout with
  | .opened _ => s.setCap { s.cap with readout := .abandoned, idle := none }
  | .opening _ tag _ waiting =>
    (s.setCap { s.cap with readout := .closed }).closeOpening tag waiting
  | _ => s

/-! ## Restart and completion (R6, R66, R67, R70, R71, R82) -/

/-- The partition of R75 for the settings standing, every segment FREE and the history empty. -/
def Cap.partition (c : Cap) (v : Settings) : Cap :=
  { c with len := v.len, chans := v.e, segs := List.replicate v.kEff .free, history := [], waiting := false
           pre := 0, post := 0, awaiting := false, oldest := 0 }

/-- CAP takes a restart (R82). -/
def State.capRestart (s : State) : State :=
  let s := s.abandonReadout
  s.setCap (s.cap.partition s.sett.vals)

/-- The run kind ACQ_MODE names (R61). -/
def runKindOf (v : Settings) : RunKind := if v.acqMode = 0 then .continuous else .sequence

/-- ACQ takes a restart (R70), after CAP has taken it. -/
def State.acqRestart (s : State) : State :=
  if s.acq.state.isRunning then
    let s := s.setTrig s.trig.giveUp
    if s.acq.stopPending then s.enterStopped .request
    else if s.sett.vals.e = 0 then s.enterStopped .noChannel
    else
      let s := s.toArming
      let kind := if s.acq.kind = .single then .single else runKindOf s.sett.vals
      let changed := kind ≠ s.acq.kind
      let s := s.setAcq { s.acq with kind := kind }
      let s := if changed then s.acqNotice .kindChanged .request else s
      s.seekSegment
  else s.examineMemory

/-- SETT's restart: the generation rises, and the restart reaches CAP, ACQ and REND (R6, R9). -/
def State.restart (s : State) : State :=
  let s := s.setSett { s.sett with gen := s.sett.gen + 1 }
  s.capRestart.acqRestart.rendRestart

/-- The largest sequence number (section 4.1). -/
def seqMax : Nat := 2 ^ 48 - 1

/-- ACQ's next state after a completion (Table 4-2). -/
def State.afterCompletion (s : State) : State :=
  if s.acq.stopPending then s.enterStopped .stopAtCompletion
  else if s.acq.kind = .single then s.enterStopped .singleDone
  else if s.acq.kind = .sequence ∧ !s.cap.segs.any Segment.isFree then s.enterStopped .sequenceComplete
  else s.toArming.seekSegment

/-- CAP files the segment in flight under a sequence number (R66 step 2, R80). -/
def State.fileSegment (s : State) (i seq : Nat) : State :=
  let sets := (s.cap.seg i).fillSets
  let f : Filed :=
    { seq := seq, trigTime := s.acq.trigTime, wall := if s.link.todSet then some s.link.tod else none, q := s.acq.q
      forced := s.acq.forced, gen := s.sett.gen, present := sets.1, invalid := sets.2, draw := false, read := false
      oldest := s.cap.oldest }
  let c := s.cap.putSeg i (.complete f)
  s.setCap { c with history := c.history ++ [i] }

/-- Post-trigger fill complete (R66), or the wrap of the sequence counter (R71). REND may draw the segment just filed, and
ACQ may want it again. -/
def State.completeSegment (s : State) (i : Nat) : State :=
  if s.acq.seq < seqMax then
    let s := s.setAcq { s.acq with seq := s.acq.seq + 1 }
    let s := (s.fileSegment i s.acq.seq).present (.segment s.acq.seq s.sett.gen 1)
    let s := s.setAcq { s.acq with inFlight := none }
    s.contend State.afterCompletion
  else
    (s.setAcq { s.acq with seq := 0 }).restart

/-! ## RUN, SINGLE, STOP and FORCE_TRIGGER, from the link or the panel -/

/-- CAP frees every COMPLETE segment without a hold for a SEQUENCE run (R80). -/
def Cap.freeUnheld (c : Cap) : Cap :=
  { c with history := c.history.filter fun i => !(c.seg i).isUnheld
           segs := c.segs.map fun x => if x.isUnheld then .free else x }

/-- A run starts from STOPPED (R60 to R62, R90). -/
def State.startRun (s : State) (kind : RunKind) : State :=
  let s := s.setAcq { s.acq with kind := kind, stopPending := false, base := 0 }
  let s := s.beginWake
  let s := if kind = .sequence then s.setCap s.cap.freeUnheld else s
  let s := s.toArming
  (s.acqNotice .started .request).seekSegment

/-- What ACQ or TRIG answers a request for action: OK with an outcome, or BAD_STATE with a reason. -/
inductive ActAnswer where
  | ok (outcome : Byte)
  | bad (r : Reason)
  deriving DecidableEq, Repr

/-- RUN (R61). -/
def State.takeRun (s : State) : State × ActAnswer :=
  if s.acq.state = .calibrating then (s, .bad .calibrating)
  else if s.sett.vals.e = 0 then (s, .bad .noChannel)
  else if s.acq.state = .stopped then (s.startRun (runKindOf s.sett.vals), .ok 0)
  else (s, .ok 1)

/-- SINGLE (R62). -/
def State.takeSingle (s : State) : State × ActAnswer :=
  if s.acq.state = .calibrating then (s, .bad .calibrating)
  else if s.sett.vals.e = 0 then (s, .bad .noChannel)
  else if s.acq.state = .stopped then (s.startRun .single, .ok 0)
  else if s.acq.kind = .single then (s, .ok 1)
  else ((s.setAcq { s.acq with kind := .single }).acqNotice .kindChanged .request, .ok 2)

/-- CAP frees the segment in flight (R80). -/
def State.freeInFlight (s : State) : State :=
  match s.acq.inFlight with
  | some i => s.setCap (s.cap.putSeg i .free)
  | none => s

/-- STOP (Table 4-3). -/
def State.takeStop (s : State) : State × ActAnswer :=
  match s.acq.state with
  | .arming => (s.enterStopped .request, .ok 0)
  | .fillingPre | .ready => (s.freeInFlight.enterStopped .request, .ok 0)
  | .fillingPost => (s.setAcq { s.acq with stopPending := true }, .ok 1)
  | .stopped | .calibrating => (s, .ok 2)

/-- FORCE_TRIGGER (Table 3-7). -/
def State.takeForce (s : State) : State × ActAnswer :=
  match s.acq.state with
  | .ready => (s.acceptTrigger .byRequest, .ok 0)
  | .arming | .fillingPre => (s.setTrig { s.trig with force := true }, .ok 1)
  | .fillingPost => (s, .bad .triggered)
  | .stopped => (s, .bad .notRunning)
  | .calibrating => (s, .bad .calibrating)

/-- The reply body of such an answer (R53, R61, R62, R68). -/
def ActAnswer.body : ActAnswer → List Byte
  | .ok o => [Status.ok.code, o]
  | .bad r => [Status.badState.code, r.code]

/-- The status of such an answer. -/
def ActAnswer.status : ActAnswer → Status
  | .ok _ => .ok
  | .bad _ => .badState

/-- CLEAR_PERSIST: all four maps are cleared; nothing else changes (R109). -/
def State.clearMaps (s : State) : State := s.setRend { s.rend with maps := Quad.fill [] }

/-! ## Samples in capture memory (R75, R79) -/

/-- The samples the capture memory holds. -/
def captureSize : Nat := 2 ^ 28

/-- How many channels of a set stand below a channel. -/
def ordinal (present : ChSet) : Channel → Nat
  | .ch1 => 0
  | .ch2 => present.c1.toNat
  | .ch3 => present.c1.toNat + present.c2.toNat
  | .ch4 => present.c1.toNat + present.c2.toNat + present.c3.toNat

/-- Where a place of a channel's record lies in the capture memory (R75). -/
def Cap.addr (c : Cap) (i : Nat) (present : ChSet) (ch : Channel) (place : Nat) : Nat :=
  i * c.len * c.chans + ordinal present ch * c.len + place

/-- Whether the record of a segment lies within the capture memory. -/
def Cap.fits (c : Cap) (i : Nat) (present : ChSet) (q : Nat) : Bool :=
  decide (q < c.len) && decide (i * c.len * c.chans + present.count * c.len ≤ captureSize)

/-- The sample of a COMPLETE segment at a record index: the pre-trigger part is read in age order (R79, R95). -/
def Cap.sample (c : Cap) (i : Nat) (f : Filed) (ch : Channel) (r : Nat) : Byte :=
  c.mem.read (c.addr i f.present ch (if r < f.q then (f.oldest + r) % f.q else r))

end Sys2Proof.Machine
end

