-- ==== Sys2Proof/Machine/StoreOps.lean ====
section
/-! DEFINITION. The store queue and what its operations do to the directory and the device (chapter 10). -/

namespace Sys2Proof.Machine

/-! ## The directory and the device -/

def Store.entry (st : Store) (slot : Nat) : Entry := st.dir[slot]?.getD (Entry.bare .empty)

def Store.putEntry (st : Store) (slot : Nat) (e : Entry) : Store := { st with dir := st.dir.setIfInBounds slot e }

def Device.sector (d : Device) (slot : Nat) : Sector := d.slots[slot]?.getD .blank

def Device.putSector (d : Device) (slot : Nat) (x : Sector) : Device :=
  { d with slots := d.slots.setIfInBounds slot x }

/-- The check of a slot sector, over its header and image (section 10.1; log entry 18). -/
def sectorCheck (h : SlotHeader) (i : Image) : BitVec 16 :=
  crc16 (Config.sectorBytes h.name h.origin.code.toNat h.savedAt h.writeCount h.isProtected i.version
    (Setting.all.map i.vals.get))

/-- A VALID entry holds its fields as its sector holds them (R163). -/
def Entry.ofHeader (h : SlotHeader) (i : Image) : Entry :=
  { state := .valid, name := h.name, origin := some h.origin, savedAt := h.savedAt, writeCount := h.writeCount
    isProtected := h.isProtected, check := some (sectorCheck h i) }

/-- The image of the settings standing now (R164). -/
def State.image (s : State) : Image := ⟨1, s.sett.vals⟩

/-- The time-of-day counter, or absent while the clock is unset. -/
def State.wallTime (s : State) : Option (BitVec 32) := if s.link.todSet then some s.link.tod else none

/-! ## The queue (R165, R172, R173) -/

/-- STORE is busy while an operation executes. -/
def Store.busy (st : Store) : Bool := st.running.isSome

/-- The operations that have not begun to execute. -/
def Store.notBegun (st : Store) : List Op := if st.busy then st.queue.tail else st.queue

/-- Apply a function to the operations that have not begun. -/
def Store.mapNotBegun (st : Store) (f : Op → Op) : Store :=
  { st with queue := if st.busy then st.queue.take 1 ++ st.queue.tail.map f else st.queue.map f }

def autosaveOp (i : Image) : Op := ⟨.autosave, .auto, 0, 0, [], some i, false⟩
def calWriteOp : Op := ⟨.calWrite, .cal, 255, 0, [], none, false⟩

/-- Replace the image of an AUTOSAVE. -/
def replaceAutosave (i : Image) (op : Op) : Op := if op.kind = .autosave then { op with image := some i } else op

/-- Begin an operation at the head: mark its slot WRITING where it writes, and note what the execution needs; or
complete it at once with a status (R167 to R170, R173). -/
def State.startOp (s : State) (op : Op) : State × Option Status :=
  let st := s.store
  let e := st.entry op.slot
  let run : Running := ⟨e.state == .valid, s.chans.unit.map ChanUnit.record, false⟩
  let writing := s.setStore { st.putEntry op.slot { e with state := .writing } with running := some run }
  let reading := s.setStore { st with running := some run }
  match op.kind with
  | .save | .autosave | .erase => if e.isProtected then (s, some .isProtected) else (writing, none)
  | .recall =>
    match e.state with
    | .empty => (s, some .notFound)
    | .bad | .writing => (s, some .checkFailed)
    | .valid => (reading, none)
  | .protect =>
    if op.slot = 0 || e.state != .valid then (s, some .notFound)
    else if e.isProtected = op.on then (s, some .ok)
    else (writing, none)
  | .calWrite => (reading, none)

/-- The body of the reply to a link operation (R167 to R170). -/
def opReplyBody (op : Op) (status : Status) (e : Entry) : List Byte :=
  let slot : Byte := BitVec.ofNat 8 op.slot
  match op.kind with
  | .recall => [status.code, slot]
  | .protect => [status.code, slot, e.state.code, Byte.ofBool e.isProtected]
  | .erase => [status.code, slot, e.state.code, 0, 0]
  | .save | .autosave | .calWrite => [status.code, slot, e.state.code] ++ leBytes 2 e.writeCount

/-- The answer to a completed operation: the reply of a link operation, the STORE notice of any other (R174). -/
def State.reportOp (s : State) (op : Op) (status : Status) : State :=
  let e := s.store.entry op.slot
  if op.origin = .link then s.reply op.tag (opReplyBody op status e)
  else if op.kind = .calWrite then s.present (.store .calWrite op.origin 255 status .empty 0)
  else s.present (.store op.kind op.origin op.slot status e.state e.writeCount)

/-- A place frees: a pending CAL_WRITE is queued first, or else a held AUTOSAVE (R165, R172, R173). -/
def Store.depart (st : Store) : Store :=
  let st := { st with queue := st.queue.tail, running := none }
  let calQueued := st.queue.any (fun op => op.kind == .calWrite)
  if st.calPending && !calQueued then { st with calPending := false, queue := st.queue ++ [calWriteOp] }
  else
    let st := { st with calPending := false }
    match st.autoHeld with
    | none => st
    | some i =>
      if st.queue.any (fun op => op.kind == .autosave) then
        { st with autoHeld := none, queue := st.queue.map (replaceAutosave i) }
      else { st with autoHeld := none, queue := st.queue ++ [autosaveOp i] }

/-- The head begins, and any head that completes at once leaves, until an operation executes or none is left. -/
def State.beginHead : Nat → State → State
  | 0, s => s
  | n + 1, s =>
    match s.store.queue with
    | [] => s
    | op :: _ =>
      match s.startOp op with
      | (s, none) => s
      | (s, some status) =>
        let s := s.reportOp op status
        (s.setStore s.store.depart).beginHead n

/-- Each operation of the queue, and each pending one, can complete at once. -/
def State.runQueue (s : State) : State := s.beginHead (s.store.queue.length + 3)

/-- An operation joins the tail of the queue; with nothing executing it begins (R165). -/
def State.queueOp (s : State) (op : Op) : State :=
  let s := s.setStore { s.store with queue := s.store.queue ++ [op] }
  if s.store.busy then s else s.runQueue

/-- The executing head completes with a status (R165, R174, R176). -/
def State.finishOp (s : State) (op : Op) (silent : Bool) (status : Status) : State :=
  let s := if silent then s else s.reportOp op status
  (s.setStore s.store.depart).runQueue

/-! ## The writes of SAVE, AUTOSAVE, ERASE and PROTECT (R167, R169, R170) -/

/-- The header a SAVE or AUTOSAVE programs (R167; log entry 26). -/
def State.saveHeader (s : State) (op : Op) (r : Running) : SlotHeader :=
  let e := s.store.entry op.slot
  { name := match op.kind, op.origin with
      | .autosave, _ => []
      | _, .panel => if r.wasValid then e.name else []
      | _, _ => op.name
    origin := match op.origin with
      | .link => .link
      | .panel => .panel
      | _ => .auto
    savedAt := s.wallTime
    writeCount := if r.wasValid then satSucc 65535 e.writeCount else 1
    isProtected := false }

/-- The image of an operation; a SAVE and an AUTOSAVE carry one. -/
def Op.imageOf (op : Op) : Image := op.image.getD ⟨1, Settings.defaults⟩

/-- A slot sector and its directory entry take what a write left. -/
def State.putSlot (s : State) (slot : Nat) (x : Sector) (e : Entry) : State :=
  s.setStore { s.store.putEntry slot e with device := s.store.device.putSector slot x }

/-- A write of a header and an image ends, good or not (R167, R170). What a bad one leaves in the sector is not said; the model
spoils it (DESIGN CHOICE, log entry 62). -/
def State.wroteSlot (s : State) (slot : Nat) (good : Bool) (h : SlotHeader) (i : Image) : State :=
  if good then s.putSlot slot (.written h i) (Entry.ofHeader h i) else s.putSlot slot .spoiled (Entry.bare .bad)

/-- The status of such a write. -/
def writeStatus (good : Bool) : Status := if good then .ok else .deviceFault

/-! ## What other blocks ask of STORE -/

/-- SETT informs STORE of a change: the autosave timer is restarted while autosave is enabled (R15, R172). -/
def State.informStore (s : State) : State :=
  if s.store.autoEnable then s.setStore { s.store with autoTimer := some (Timer.start (msUs 5000)) } else s

/-- CHAN requests a calibration write (R173). -/
def State.requestCalWrite (s : State) : State :=
  if s.store.notBegun.any (fun op => op.kind == .calWrite) then s
  else if s.store.queue.any (fun op => op.kind == .calWrite) || decide (4 ≤ s.store.queue.length) then
    s.setStore { s.store with calPending := true }
  else s.queueOp calWriteOp

/-- The autosave timer runs out (R172). -/
def State.autosaveDue (s : State) : State :=
  let i := s.image
  let s := s.setStore { s.store with autoTimer := none }
  if s.store.notBegun.any (fun op => op.kind == .autosave) then s.setStore (s.store.mapNotBegun (replaceAutosave i))
  else if s.store.queue.any (fun op => op.kind == .autosave) || decide (4 ≤ s.store.queue.length) then
    s.setStore { s.store with autoHeld := some i }
  else s.queueOp (autosaveOp i)

/-- STORE takes a checked SAVE or RECALL: its status at arrival is PROTECTED or QUEUE_FULL, or the operation is
queued (R166). -/
def State.takeStoreOp (s : State) (op : Op) : State × Status :=
  if (op.kind = .save || op.kind = .erase) && (s.store.entry op.slot).isProtected then (s, .isProtected)
  else if 4 ≤ s.store.queue.length then (s, .queueFull)
  else (s.queueOp op, .ok)

end Sys2Proof.Machine
end

