-- ==== Sys2Proof/Machine/ChannelOps.lean ====
section
/-! DEFINITION. The front ends, the protection latches and the turns of a self-calibration (chapter 2). -/

namespace Sys2Proof.Machine

/-- Change what CHAN holds for one channel. -/
def State.setUnit (s : State) (ch : Channel) (u : ChanUnit) : State :=
  s.setChans { s.chans with unit := s.chans.unit.put ch u }

/-- A CHANNEL notice with what stands after the event (R37; log entry 16). -/
def State.channelNotice (s : State) (ch : Channel) (ev : ChanEvent) : State :=
  let u := s.chans.unit.get ch
  s.present (.channel ch ev (s.chanState ch) u.latch u.cal u.d)

/-- What the settings program into a front end, isolated while its latch is set (R19). -/
def ChanSettings.program (c : ChanSettings) (latch : Bool) : FrontEnd :=
  ⟨c.scale, c.offset, c.coupling, c.term, latch, false⟩

/-- CHAN programs a front end with the channel's present settings (R19). -/
def State.programFront (s : State) (ch : Channel) : State :=
  let u := s.chans.unit.get ch
  s.setUnit ch { u with front := (s.sett.vals.chan.get ch).program u.latch }

/-- CHAN informs CAP that a channel has become PROTECTED: it joins the invalid set of the filling segment that it is
present in (R21). -/
def State.markInvalid (s : State) (ch : Channel) : State :=
  match s.acq.inFlight with
  | none => s
  | some i =>
    match s.cap.seg i with
    | .filling p inv => s.setCap (s.cap.putSeg i (.filling p (inv.put ch (inv.get ch || p.get ch))))
    | _ => s

/-- A source channel that enters PROTECTED in a filling state disarms TRIG (R43). -/
def State.disarmSource (s : State) (ch : Channel) : State :=
  if s.sett.vals.source = some ch ∧ s.acq.state.isFilling then s.setTrig s.trig.disarm else s

/-- What CHAN does on taking an overload report, up to its notice (R20). -/
def State.protectChannel (s : State) (ch : Channel) : State :=
  let u := s.chans.unit.get ch
  let s := s.setUnit ch { u with latch := true, front := { u.front with isolated := true } }
  let s := if s.chanState ch = .isProtected then (s.markInvalid ch).disarmSource ch else s
  s.channelNotice ch .isProtected

/-- CHAN clears a latch, connects the input and reports it (R22, R23). -/
def State.unprotectChannel (s : State) (ch : Channel) : State :=
  let u := s.chans.unit.get ch
  (s.setUnit ch { u with latch := false, front := { u.front with isolated := false } }).channelNotice ch .restored

/-- The overload condition of a channel, read from the four that stand (log entry 12). -/
def condOf (cond : BitVec 4) (ch : Channel) : Bool := cond.getLsbD (ch.num - 1)

/-- The overload condition that CHAN reads at a front end: one programmed at 1 MΩ has none (R38, R20). -/
def ChanUnit.overloaded (u : ChanUnit) (cond : BitVec 4) (ch : Channel) : Bool := u.front.term == 1 && condOf cond ch

/-- RESTORE_CHANNEL, from the link or the panel (R22, R38). -/
def State.takeRestore (s : State) (ch : Channel) (cond : BitVec 4) : State × ActAnswer :=
  if !(s.chans.unit.get ch).latch then (s, .ok 0)
  else if (s.chans.unit.get ch).overloaded cond ch then (s, .bad .overloadPresent)
  else (s.unprotectChannel ch, .ok 0)

/-! ## Self-calibration (R30 to R34) -/

/-- The failed turns, as a set of channels (R34). -/
def failedSet (done : List TurnResult) : ChSet :=
  Quad.of fun ch => done.any fun r => r.ch == ch && r.outcome != .ok

/-- One entry of the SELF_CAL reply (R34). -/
def TurnResult.bytes (r : TurnResult) : List Byte :=
  [BitVec.ofNat 8 r.ch.num] ++ leBytes 2 r.mean16 ++ [r.outcome.code]

/-- The reply to SELF_CAL (R34). -/
def selfCalReply (named : ChSet) (done : List TurnResult) : List Byte :=
  let failed := failedSet done
  [(if failed.bits = 0 then Status.ok else Status.deviceFault).code, BitVec.ofNat 8 named.bits,
    BitVec.ofNat 8 failed.bits] ++ done.flatMap TurnResult.bytes

/-- The self-calibration ends (R34). -/
def State.endSelfCal (s : State) (tag : Byte) (named : ChSet) (done : List TurnResult) : State :=
  let s := s.setChans { s.chans with selfCal := none }
  let s := (s.setAcq { s.acq with state := .stopped }).acqNotice .stopped .calibrationEnded
  (s.reply tag (selfCalReply named done)).requestCalWrite

/-- The front end of a channel in its turn (R31). -/
def ChanSettings.measure (c : ChanSettings) : FrontEnd := ⟨c.scale, 0, 0, c.term, false, true⟩

/-- A turn begins: the front end is programmed for the measurement and its scale index recorded (R31). -/
def State.beginTurn (s : State) (tag : Byte) (named : ChSet) (ch : Channel) (todo : List Channel)
    (done : List TurnResult) : State :=
  let c := s.sett.vals.chan.get ch
  let s := s.setUnit ch { s.chans.unit.get ch with front := c.measure }
  let turn : SelfCal :=
    { tag := tag, named := named, turn := ch, scale := c.scale, to50 := false, todo := todo, done := done }
  s.setChans { s.chans with selfCal := some turn }

/-- A change of the termination of the channel in its turn to 50 Ω is remembered until the turn ends (R32). -/
def State.noteTo50 (s : State) : State :=
  s.setChans { s.chans with selfCal := s.chans.selfCal.map fun c => { c with to50 := true } }

/-- The next turn begins: a channel whose latch is set by then fails without a turn, and when none remains the
self-calibration ends (R31). -/
def State.nextTurn (s : State) (tag : Byte) (named : ChSet) : List Channel → List TurnResult → State
  | [], done => s.endSelfCal tag named done
  | ch :: todo, done =>
    if (s.chans.unit.get ch).latch then s.nextTurn tag named todo (done ++ [⟨ch, 0, .isProtected⟩])
    else s.beginTurn tag named ch todo done

/-- The turn of a self-calibration ends with a result: the front end is programmed back to the channel's settings
(R31, R32), a termination changed to 50 Ω in the turn and standing there has its condition read (R23), and the next turn
begins. -/
def State.endTurn (s : State) (c : SelfCal) (result : TurnResult) (cond : BitVec 4) : State :=
  let s := s.setChans { s.chans with selfCal := none }
  let s := s.programFront c.turn
  let u := s.chans.unit.get c.turn
  let s := if c.to50 ∧ !u.latch ∧ u.overloaded cond c.turn then s.protectChannel c.turn else s
  s.nextTurn c.tag c.named c.todo (c.done ++ [result])

/-- An overload report reaches CHAN (R20); in the channel's turn it ends the turn (R32). -/
def State.overload (s : State) (ch : Channel) : State :=
  if (s.sett.vals.chan.get ch).term = 1 ∧ !(s.chans.unit.get ch).latch then
    let s := s.protectChannel ch
    match s.chans.selfCal with
    | some c => if c.turn = ch then s.endTurn c ⟨ch, 0, .isProtected⟩ 0 else s
    | none => s
  else s

/-- m of a turn (R31). -/
def turnOffset (mean16 : Nat) : Int := roundAway (2048 - mean16) 16

/-- What the judgement of a turn makes of its channel's unit when it succeeds (R33). d keeps its value until the next
sample, before the first sample after start-up too (DESIGN CHOICE, log entry 43). -/
def ChanUnit.calibrated (u : ChanUnit) (m temp : Int) : ChanUnit :=
  { u with record := { u.record with valid := true, calOffset := m, calTemp := temp
                                     calCount := satSucc 65535 u.record.calCount }
           takeTarget := true, cal := .fresh }

/-- CHAN judges the turn that ends (R32, R33). -/
def State.judgeTurn (s : State) (c : SelfCal) (mean16 : Nat) : State × TurnOutcome :=
  let m := turnOffset mean16
  let u := s.chans.unit.get c.turn
  if (s.sett.vals.chan.get c.turn).scale ≠ c.scale then (s, .settingsChanged)
  else if -64 ≤ m ∧ m ≤ 63 then
    let s' := s.setUnit c.turn (u.calibrated m s.chans.temp)
    (if u.cal = .fresh then s' else s'.channelNotice c.turn .fresh, .ok)
  else (s, .outOfRange)

/-! ## Drift tracking (R25 to R29) -/

/-- The cal_offset and tempco of a record as CHAN reads them (section 2.3). -/
def CalRecord.offsetRead (r : CalRecord) : Int := if r.valid then r.calOffset else 0
def CalRecord.tempcoRead (r : CalRecord) : Int := if r.valid then r.tempco else 0

/-- The target t at a temperature (R26). -/
def CalRecord.target (r : CalRecord) (temp : Int) : Int :=
  clampInt (r.offsetRead + roundAway (r.tempcoRead * (temp - r.calTemp)) 100) (-64) 63

/-- d moves toward t by at most one code, or takes it (R27). -/
def ChanUnit.step (u : ChanUnit) (t : Int) : ChanUnit :=
  { u with t := t, takeTarget := false
           d := if u.takeTarget then t else if u.d < t then u.d + 1 else if t < u.d then u.d - 1 else u.d }

/-- The calibration state after a sample (R28). -/
def ChanUnit.freshness (u : ChanUnit) (temp : Int) : CalState :=
  let dt : Int := (temp - u.record.calTemp).natAbs
  if !u.record.valid then u.cal
  else match u.cal with
    | .fresh => if u.record.staleLimit < dt then .stale else .fresh
    | .stale => if dt ≤ u.record.staleLimit - 10 then .fresh else .stale
    | .none => .none

/-- The event a change of calibration state reports (R28). -/
def CalState.event? : CalState → Option ChanEvent
  | .fresh => some .fresh
  | .stale => some .stale
  | .none => Option.none

/-- One channel takes a temperature sample (R26 to R29). Its correction is stepped first, so that a STALE or FRESH notice
carries d as this sample leaves it (DESIGN CHOICE, log entry 63). -/
def State.trackChannel (s : State) (ch : Channel) : State :=
  let u := s.chans.unit.get ch
  let u' := u.step (u.record.target s.chans.temp)
  let cal := u.freshness s.chans.temp
  let s := s.setUnit ch { u' with cal := cal }
  let s := if u'.d ≠ u.d ∧ s.sett.vals.source = some ch then s.recode else s
  match cal.event? with
  | some ev => if cal ≠ u.cal then s.channelNotice ch ev else s
  | none => s

/-! ## Start-up (R24, R27, R38) -/

/-- A field outside its range in a record marked valid is clamped into its range (R24). -/
def CalRecord.taken (r : CalRecord) : CalRecord :=
  if r.valid then
    { r with calOffset := clampInt r.calOffset (-64) 63, calTemp := clampInt r.calTemp (-400) 1250
             tempco := clampInt r.tempco (-8) 8, staleLimit := clampInt r.staleLimit 10 500
             calCount := min r.calCount 65535 }
  else r

/-- A channel takes its record from the scan: the state of R24, and d of R27. -/
def ChanUnit.scanned (u : ChanUnit) (r : CalRecord) : ChanUnit :=
  let r := r.taken
  { u with record := r, cal := if r.valid then .fresh else .none, d := r.offsetRead }

/-- The check of the overload conditions at the end of start-up (R38). -/
def State.checkCondition (s : State) (cond : BitVec 4) (ch : Channel) : State :=
  if condOf cond ch then s.overload ch else s

end Sys2Proof.Machine
end

