-- ==== Sys2Proof/Machine/SettingsOps.lean ====
section
/-! DEFINITION. Taking a settings change: ranges, clamping, derived re-clamps, and what one transaction delivers
(chapter 1). -/

namespace Sys2Proof.Machine

/-! ## The table (Tables 1-1 and 1-2) -/

/-- R of CHn_OFFSET's range (Table 1-2). -/
def Settings.offsetLimit (v : Settings) (ch : Channel) : Int := 10 * v.scaleMv ch * 1000

/-- The range of a setting as it stands (R1). -/
def Settings.range (v : Settings) : Setting → Int × Int
  | .acqMode => (0, 1)
  | .acqInterval => (0, 27)
  | .acqLength => (10, 24)
  | .acqSegments => (1, 1024)
  | .enable _ => (0, 1)
  | .scale _ => (0, 12)
  | .offset ch => (-v.offsetLimit ch, v.offsetLimit ch)
  | .coupling _ => (0, 1)
  | .term _ => (0, 1)
  | .trigSource => (1, 5)
  | .trigType => (0, 1)
  | .trigSlope => (0, 2)
  | .trigLevel => (-100000000, 100000000)
  | .trigHyst => (1, 16)
  | .trigWidthCond => (0, 2)
  | .trigWidthLo => (1, 10000000000)
  | .trigWidthHi => (1, 10000000000)
  | .trigHoldoff => (0, 10000000)
  | .trigMode => (0, 1)
  | .trigPosition => (0, 1000)
  | .position _ => (-400, 400)
  | .viewStart => (0, v.len - v.viewSpan)
  | .viewSpan => (640, v.len)
  | .drawStyle => (0, 1)
  | .persistMode => (0, 2)
  | .persistDecay => (1, 255)
  | .intensity => (1, 64)
  | .graticule => (0, 2)

/-- The effect classes (section 1.3). -/
inductive Effect where
  | restart
  | rearm
  | live
  | redraw (maps : ChSet)
  | plain
  deriving DecidableEq, Repr

/-- The set of one channel. -/
def ChSet.only (ch : Channel) : ChSet := (Quad.fill false).put ch true

/-- The effect class of a setting. -/
def Setting.effect : Setting → Effect
  | .acqMode | .acqInterval | .acqLength | .acqSegments | .trigPosition => .restart
  | .enable _ | .scale _ | .offset _ | .coupling _ | .term _ => .restart
  | .trigSource | .trigType | .trigSlope | .trigWidthCond | .trigWidthLo | .trigWidthHi => .rearm
  | .trigLevel | .trigHyst | .trigHoldoff | .trigMode => .live
  | .position ch => .redraw (ChSet.only ch)
  | .viewStart | .viewSpan | .drawStyle | .persistMode => .redraw (Quad.fill true)
  | .persistDecay | .intensity | .graticule => .plain

/-- The group of a setting, for the authority set (section 9.1). -/
def Setting.group : Setting → Group
  | .acqMode | .acqInterval | .acqLength | .acqSegments => .acquisition
  | .enable _ | .scale _ | .offset _ | .coupling _ | .term _ => .acquisition
  | .trigSource | .trigType | .trigSlope | .trigLevel | .trigHyst | .trigWidthCond | .trigWidthLo | .trigWidthHi
  | .trigHoldoff | .trigMode | .trigPosition => .trigger
  | .position _ | .viewStart | .viewSpan | .drawStyle | .persistMode | .persistDecay | .intensity | .graticule => .display

/-- Whether the authority set contains a group. -/
def AuthSet.has (g : AuthSet) : Group → Bool
  | .acquisition => g.acquisition
  | .trigger => g.trigger
  | .display => g.display
  | .store => g.store

/-! ## First stage: writes (R3 to R5) -/

/-- A recorded change. -/
structure Change where
  setting : Setting
  origin  : Origin
  deriving DecidableEq, Repr

/-- A transaction in its first stage: the values as they stand, and the changes recorded, oldest first. -/
structure Txn where
  vals    : Settings
  changes : List Change
  deriving DecidableEq, Repr

/-- The effective value of a proposed one (R4). -/
def Settings.effective (v : Settings) (k : Setting) (x : Int) : Int := clampInt x (v.range k).1 (v.range k).2

/-- One write without its re-clamps (R3, R4). -/
def Txn.store (t : Txn) (k : Setting) (x : Int) (o : Origin) : Txn :=
  let e := t.vals.effective k x
  if e = t.vals.get k then t else ⟨t.vals.put k e, t.changes ++ [⟨k, o⟩]⟩

/-- Re-clamp a setting to its present range, with origin DERIVED (R5). -/
def Txn.reclamp (t : Txn) (k : Setting) : Txn := t.store k (t.vals.get k) .derived

/-- The re-clamps that a change of a setting causes (R5). -/
def Txn.derive (t : Txn) : Setting → Txn
  | .scale ch => t.reclamp (.offset ch)
  | .acqLength => (t.reclamp .viewSpan).reclamp .viewStart
  | .viewSpan => t.reclamp .viewStart
  | _ => t

/-- One write, with its derived changes (R3 to R5). -/
def Txn.write (t : Txn) (k : Setting) (x : Int) (o : Origin) : Txn :=
  let t' := t.store k x o
  if t'.vals.get k = t.vals.get k then t else t'.derive k

/-- Whether a write is clamped (R4). -/
def Txn.clamps (t : Txn) (k : Setting) (x : Int) : Bool := decide (t.vals.effective k x ≠ x)

/-- Writes in turn; whether any was clamped. -/
def Txn.writes (o : Origin) : Txn → List (Setting × Int) → Txn × Bool
  | t, [] => (t, false)
  | t, (k, x) :: r =>
    let c := t.clamps k x
    let (t, cs) := (t.write k x o).writes o r
    (t, c || cs)

/-! ## Second stage: effects (R6 to R8, R14, R15) -/

/-- Whether a transaction recorded a change of a setting. -/
def Txn.changed (t : Txn) (k : Setting) : Bool := t.changes.any fun c => c.setting == k

/-- Whether it recorded a change of a class. -/
def Txn.hasRestart (t : Txn) : Bool := t.changes.any fun c => c.setting.effect == .restart
def Txn.hasRearm (t : Txn) : Bool := t.changes.any fun c => c.setting.effect == .rearm

/-- The channels in either set. -/
def Quad.union (a b : ChSet) : ChSet := ⟨a.c1 || b.c1, a.c2 || b.c2, a.c3 || b.c3, a.c4 || b.c4⟩

/-- The maps that the REDRAW changes affect (R8). -/
def Txn.redrawMaps (t : Txn) : ChSet :=
  t.changes.foldl (fun m c => match c.setting.effect with | .redraw x => Quad.union m x | _ => m) (Quad.fill false)

/-- CHAN takes the changes of one channel's front-end settings (R19, R23), unless the channel is in its turn, when they
reach the front end at the turn's end, and a change to 50 Ω is remembered (R32). -/
def State.deliverChannel (s : State) (before : Settings) (t : Txn) (cond : BitVec 4) (ch : Channel) : State :=
  let touched := t.changed (.scale ch) || t.changed (.offset ch) || t.changed (.coupling ch) || t.changed (.term ch)
  let was := (before.chan.get ch).term
  let now := (t.vals.chan.get ch).term
  if !touched then s
  else if s.chans.selfCal.any (fun c => c.turn = ch) then (if was = 0 ∧ now = 1 then s.noteTo50 else s)
  else
    let latch := (s.chans.unit.get ch).latch
    if was = 1 ∧ now = 0 ∧ latch then (s.unprotectChannel ch).programFront ch
    else if was = 0 ∧ now = 1 ∧ !latch then
      let s := s.programFront ch
      if (s.chans.unit.get ch).overloaded cond ch then s.protectChannel ch else s
    else s.programFront ch

/-- TRIG recomputes what the changes touch (R7, R40, R42, R47). -/
def State.deliverTrigger (s : State) (t : Txn) : State :=
  let src := match t.vals.source with
    | some ch => t.changed (.scale ch) || t.changed (.offset ch)
    | none => false
  let s := if src || t.changed .trigLevel || t.changed .trigHyst || t.changed .trigSource then s.recode else s
  if t.changed .trigWidthLo || t.changed .trigWidthHi || t.changed .acqInterval then s.relimit else s

/-- TRIG takes a rearm (R55 steps 1, 2, 4 and 5; step 3 is `deliverTrigger`). -/
def State.rearm (s : State) : State :=
  let s := s.setTrig { s.trig.disarm with auto := none }
  if s.acq.state = .ready ∧ s.sett.vals.trigMode = 0 then s.startAuto else s

/-- The origin of the last change of a setting in a transaction. -/
def Txn.lastOrigin (t : Txn) (k : Setting) : Option Origin :=
  (t.changes.reverse.find? fun c => c.setting == k).map Change.origin

/-- Whether a last change of this origin is reported (R14). -/
def Origin.isReported : Origin → Bool
  | .panel | .recall | .derived => true
  | .link | .startUp => false

/-- The SETTING notices of a transaction, in ascending id (R14; log entry 14). -/
def State.settingNotices (s : State) (t : Txn) : State :=
  Setting.all.foldl (fun s k =>
    match t.lastOrigin k with
    | some o => if o.isReported then s.present (.setting k (t.vals.get k) o) else s
    | none => s) s

/-- The second stage of a transaction (R6 to R8, R14, R15), in the order of log entry 14. -/
def State.commit (s : State) (t : Txn) (cond : BitVec 4) : State :=
  if t.changes = [] then s
  else
    let before := s.sett.vals
    let s := s.setSett { s.sett with vals := t.vals }
    let s := Channel.all.foldl (fun s ch => s.deliverChannel before t cond ch) s
    let s := s.deliverTrigger t
    let s := if t.hasRestart then s.restart else s
    let s := if t.hasRearm then s.rearm else s
    let s := if !t.hasRestart && t.redrawMaps.count != 0 then s.redraw t.redrawMaps else s
    (s.settingNotices t).informStore

/-- A transaction of writes of one origin: the state after it, and whether any write was clamped. -/
def State.transact (s : State) (ws : List (Setting × Int)) (o : Origin) (cond : BitVec 4) : State × Bool :=
  let (t, c) := Txn.writes o ⟨s.sett.vals, []⟩ ws
  (s.commit t cond, c)

/-! ## Panel changes (R13) -/

/-- SETT's answer to PANEL (R13). -/
inductive PanelAnswer where
  | refused | unchanged | applied | appliedClamped
  deriving DecidableEq, Repr

/-- SETT takes a panel change (R13). One that R4 marks clamped and whose effective value is the stored one is answered
unchanged, not applied-clamped (DESIGN CHOICE, log entry 58). -/
def State.panelChange (s : State) (k : Setting) (x : Int) : State × PanelAnswer :=
  if !s.auth.set.has k.group then (s, .refused)
  else
    let e := s.sett.vals.effective k x
    if e = s.sett.vals.get k then (s, .unchanged)
    else
      let (s, c) := s.transact [(k, x)] .panel 0
      (s, if c then .appliedClamped else .applied)

/-! ## Recall and start-up (R16, R17) -/

/-- The 46 settings in the order of a recall: ascending id, VIEW_SPAN immediately before VIEW_START (R16). -/
def Setting.recallOrder : List Setting :=
  Setting.all.filter (fun k => k.id < 68) ++ [.viewSpan, .viewStart] ++ Setting.all.filter (fun k => 69 < k.id)

/-- The writes of an image (R16). -/
def Image.writes (i : Image) : List (Setting × Int) := Setting.recallOrder.map fun k => (k, i.vals.get k)

/-- The start-up application of an image to the table: its values clamped silently, nothing reported (R17). -/
def State.applyStartUp (s : State) (i : Image) : State :=
  s.setSett { s.sett with vals := (Txn.writes .startUp ⟨s.sett.vals, []⟩ i.writes).1.vals }

/-! ## Replies (R10 to R12) -/

/-- The level-limited indication (R10). -/
def State.levelLimited (s : State) : Byte := Byte.ofBool s.trig.limited

/-- One entry of id and value, nine bytes (R11, R12). -/
def Settings.entry (v : Settings) (k : Setting) : List Byte := BitVec.ofNat 8 k.id :: leInt 8 (v.get k)

/-- The place of the first unknown id, if any. -/
def firstUnknown (ids : List Nat) : Option Nat := ids.findIdx? fun id => (Setting.ofId? id).isNone

/-- The settings that known ids name. -/
def knownSettings (ids : List Nat) : List Setting := ids.filterMap Setting.ofId?

/-- The writes of pairs with known ids. -/
def pairWrites (ps : List (Nat × Int)) : List (Setting × Int) :=
  ps.filterMap fun p => (Setting.ofId? p.1).map fun k => (k, p.2)

end Sys2Proof.Machine
end

