-- ==== Sys2Proof/Machine/DisplayOps.lean ====
section
/-! DEFINITION. The overlay planes and their queue, panel power, and the picture (chapter 7; R106, R110). -/

namespace Sys2Proof.Machine

/-! ## Drawing into a plane (R117, R120 to R122) -/

/-- The plane shown, and the plane drawn into. -/
def Disp.front (d : Disp) : Mem := if d.frontA then d.planeA else d.planeB
def Disp.back (d : Disp) : Mem := if d.frontA then d.planeB else d.planeA

/-- Replace the back plane. -/
def Disp.putBack (d : Disp) (m : Mem) : Disp := if d.frontA then { d with planeB := m } else { d with planeA := m }

/-- Where the pixel (x, y) of an overlay plane is kept. -/
def pixelKey (x y : Nat) : Nat := y * 800 + x

/-- Where a pixel is kept, for a pixel on the screen. -/
def screenKey (x y : Int) : Option Nat :=
  if 0 ≤ x ∧ x < 800 ∧ 0 ≤ y ∧ y < 480 then some (pixelKey x.toNat y.toNat) else none

/-- The coordinates of `x` to `x + w - 1` that lie within `0` to `limit - 1`. -/
def screenSpan (x : Int) (w limit : Nat) : List Nat :=
  let lo := (max 0 x).toNat
  let hi := (min (limit : Int) (x + w)).toNat
  (List.range (hi - lo)).map (lo + ·)

/-- Set pixels of a plane, in turn. -/
def Mem.paint (m : Mem) (ps : List (Nat × Byte)) : Mem := ps.foldl (fun m p => m.write p.1 p.2) m

/-- The pixels of a FILL_RECT on the screen (R120). -/
def rectPixels (x y : Int) (w h : Nat) (index : Byte) : List (Nat × Byte) :=
  (screenSpan y h 480).flatMap fun py => (screenSpan x w 800).map fun px => (pixelKey px py, index)

/-- What one pixel of a character's cell is set to, if anything (R121; log entry 39). -/
def glyphPixel (code : Byte) (text back : Byte) (i j : Nat) : Option Byte :=
  if code.toNat < 0x20 ∨ 0x7E < code.toNat then some text
  else if Config.glyph code.toNat i j then (if text = 0 then none else some text)
  else (if back = 0 then none else some back)

/-- The pixels one character sets, on the screen (R121). -/
def charPixels (x y : Int) (text back code : Byte) : List (Nat × Byte) :=
  (List.range 16).flatMap fun (j : Nat) => (List.range 8).filterMap fun (i : Nat) =>
    match screenKey (x + i) (y + j), glyphPixel code text back i j with
    | some a, some b => some (a, b)
    | _, _ => none

/-- The pixels of a PUT_TEXT (R121): the k-th character's cell begins at x + 8k. -/
def textPixels (x y : Int) (text back : Byte) (chars : List Byte) : List (Nat × Byte) :=
  chars.zipIdx.flatMap fun c => charPixels (x + 8 * c.2) y text back c.1

/-- The pixels of a PUT_PIXELS, in row order; those off the screen are counted and not drawn (R122). -/
def imagePixels (x y : Int) (w : Nat) (runs : List (Nat × Byte)) : List (Nat × Byte) :=
  (runs.flatMap fun r => List.replicate r.1 r.2).zipIdx.filterMap fun p =>
    (screenKey (x + (p.2 % w : Nat)) (y + (p.2 / w : Nat))).map fun a => (a, p.1)

/-- The pixels a drawing command sets. -/
def Overlay.pixels : Overlay → List (Nat × Byte)
  | .fillRect x y w h index => rectPixels x y w h index
  | .putText x y text back chars => textPixels x y text back chars
  | .putPixels x y w _ runs => imagePixels x y w runs
  | .endBatch _ => []

/-- A drawing command is carried out whole, into the back plane (R119). -/
def Disp.draw (d : Disp) (c : Overlay) : Disp := d.putBack (d.back.paint c.pixels)

/-! ## The overlay command queue, flips and plane sync (R119, R123, R124) -/

/-- The flip: the planes are exchanged, END_BATCH leaves the queue and is answered, and plane sync begins (R123). -/
def State.flip (s : State) (tag : Byte) (rest : List Overlay) : State :=
  (s.setDisp { s.disp with frontA := !s.disp.frontA, queue := rest, sync := true }).replyStatus tag .ok

/-- Carry out the commands of a queue from its head on while plane sync is idle (R119); in the dark an END_BATCH at the
head flips at once (R123). -/
def State.pumpFrom (s : State) : List Overlay → State
  | [] => s.setDisp { s.disp with queue := [] }
  | .endBatch tag :: r =>
    if s.disp.power.isLit then s.setDisp { s.disp with queue := .endBatch tag :: r } else s.flip tag r
  | c :: r => (s.setDisp (s.disp.draw c)).pumpFrom r

def State.pump (s : State) : State := if s.disp.sync then s else s.pumpFrom s.disp.queue

/-- An END_BATCH at the head flips at a frame event (R126 step 1). -/
def State.frameFlip (s : State) : State :=
  match s.disp.queue with
  | .endBatch tag :: r => if s.disp.sync then s else s.flip tag r
  | _ => s

/-- DISP takes a checked overlay command into its queue, or finds the queue full (R119). -/
def State.queueOverlay (s : State) (c : Overlay) : Option State :=
  if s.disp.queue.length < 32 then some ((s.setDisp { s.disp with queue := s.disp.queue ++ [c] }).pump) else none

/-! ## Panel power (R127 to R131) -/

/-- A DISPLAY notice with the power state as it stands (R134). -/
def State.displayNotice (s : State) (ev : DispEvent) (cause : Cause) : State :=
  s.present (.display ev cause s.disp.power)

/-- Power-up, step 1; CAP takes it as a display wake (R127, R90). -/
def State.beginPowerUp (s : State) (cause : Cause) : State :=
  (s.setDisp { s.disp with power := .poweringUp, logic := true, cause := cause, blankPending := false
                           wakePending := none }).beginWake

/-- Power-down, step 1; an END_BATCH waiting at the head flips now (R127, R123). -/
def State.beginPowerDown (s : State) (cause : Cause) : State :=
  (s.setDisp { s.disp with power := .poweringDown, idle := none, cause := cause, shown := .background }).pump

/-- The idle timer is restarted (R130). -/
def State.restartIdle (s : State) : State := s.setDisp { s.disp with idle := some 0 }

/-- DIM becomes ON (R131, R132). -/
def State.brighten (s : State) (cause : Cause) : State :=
  ((s.setDisp { s.disp with power := .on }).displayNotice .on cause).examineDraw

/-- ON becomes DIM (R130, R132). -/
def State.dim (s : State) : State := (s.setDisp { s.disp with power := .dim }).examineDraw

/-- DISP takes panel activity; true is the answer act, false consume (R131). -/
def State.activity (s : State) : State × Bool :=
  match s.disp.power with
  | .on => (s.restartIdle, true)
  | .dim => (s.restartIdle.brighten .activity, true)
  | .blank => ((s.beginPowerUp .activity).displayNotice .wake .activity, false)
  | .poweringUp => (s, false)
  | .poweringDown =>
    if s.disp.wakePending.isSome then (s, false)
    else ((s.setDisp { s.disp with wakePending := some .activity }).displayNotice .wake .activity, false)

/-- The slots of sixteen for which the backlight is lit (R129). -/
def State.backlight (s : State) : Nat :=
  match s.disp.power with
  | .on => s.disp.onLevel
  | .dim => s.disp.dimLevel
  | .blank | .poweringUp | .poweringDown => 0

/-! ## The status strip (R115, R116) -/

/-- The characters of a number. -/
def digits (n : Nat) : List Char := Nat.toDigits 10 n

/-- A field written from its first cell, the cells its text does not reach being spaces. -/
def field (n : Nat) (t : List Char) : List Char := (t ++ List.replicate n ' ').take n

def acqWord (s : State) : String :=
  match s.acq.state with
  | .stopped => "STOP"
  | .arming | .fillingPre => "ARMING"
  | .ready => "READY"
  | .fillingPost => if s.trig.lastForced = .byAuto then "AUTO" else "TRIG'D"
  | .calibrating => "CAL"

def scaleText (mv : Nat) : List Char :=
  if mv < 1000 then digits mv ++ "mV".toList else digits (mv / 1000) ++ "V".toList

def channelField (s : State) (ch : Channel) : List Char :=
  let word := match s.chanState ch with
    | .off => "OFF"
    | .isProtected => "PROT"
    | .on | .calibrating => ""
  digits ch.num ++ [' '] ++ field 5 (scaleText (s.sett.vals.scaleMv ch)) ++ [' '] ++ field 4 word.toList ++ [' ']
    ++ [if (s.chans.unit.get ch).cal = .stale then '~' else ' ',
        if s.rend.above.get ch then '^' else ' ',
        if s.rend.below.get ch then 'v' else ' ']

/-- The signed whole number of mV (R116). -/
def levelText (uv : Int) : List Char :=
  let n := roundAway uv 1000
  (if n < 0 then '-' else '+') :: digits n.natAbs ++ "mV".toList

def sourceText (v : Settings) : List Char :=
  match v.source with
  | some ch => 'C' :: 'H' :: digits ch.num
  | none => "EXT".toList

def triggerField (s : State) : List Char :=
  "T ".toList ++ sourceText s.sett.vals ++ [' '] ++ levelText s.sett.vals.trigLevel
    ++ (if s.trig.limited then ['!'] else [])

def authorityField (s : State) : List Char :=
  (if s.auth.set = AuthSet.full then "LOCAL" else "REMOTE").toList
    ++ (if s.auth.state = .requested then " REQ".toList else [])

/-- The 100 cells of the status strip (R115, Table 7-2). -/
def State.strip (s : State) : List Char :=
  field 6 (acqWord s).toList ++ [' '] ++ channelField s .ch1 ++ channelField s .ch2 ++ channelField s .ch3
    ++ channelField s .ch4 ++ [' '] ++ field 17 (triggerField s) ++ [' '] ++ field 10 (authorityField s)

/-! ## Composing a pixel (R110, R112 to R115) -/

def Rgb.background : Rgb := ⟨0, 0, 0⟩
def Rgb.white : Rgb := ⟨255, 255, 255⟩
def Rgb.graticule : Rgb := ⟨80, 80, 80⟩

/-- Each channel's fixed colour (R113). -/
def Channel.colour : Channel → Rgb
  | .ch1 => ⟨255, 255, 0⟩ | .ch2 => ⟨0, 255, 255⟩ | .ch3 => ⟨255, 0, 255⟩ | .ch4 => ⟨0, 255, 0⟩

/-- The colour of a cell's glyph (Table 7-2); the cells 6, 71 and 89 of no field take white (DESIGN CHOICE, log
entry 47). -/
def cellColour (i : Nat) : Rgb :=
  if i < 7 then .white
  else if i < 23 then Channel.colour .ch1
  else if i < 39 then Channel.colour .ch2
  else if i < 55 then Channel.colour .ch3
  else if i < 71 then Channel.colour .ch4
  else .white

/-- The status strip's pixel (R115). -/
def stripPixel (strip : List Char) (x y : Nat) : Rgb :=
  if 4 ≤ y ∧ y ≤ 19 ∧ Config.glyph (strip.getD (x / 8) ' ').toNat (x % 8) (y - 4) then cellColour (x / 8)
  else .background

/-- The shade of a count of 1 or more (R110). -/
def shade (count : Byte) : Nat := 64 + count.toNat * 191 / 255

/-- A component times shade / 255, taking the floor (R113). -/
def scaleByte (shade : Nat) (b : Byte) : Byte := BitVec.ofNat 8 (b.toNat * shade / 255)

def Rgb.scaled (c : Rgb) (shade : Nat) : Rgb := ⟨scaleByte shade c.r, scaleByte shade c.g, scaleByte shade c.b⟩

/-- Whether a grid point is on the graticule (R114). -/
def onGraticule (mode : Int) (c r : Nat) : Bool :=
  if mode = 0 then
    c % 64 == 0 || c == 639 || r % 50 == 0 || r == 399
      || (decide (198 ≤ r) && decide (r ≤ 202) && c % 8 == 0)
      || (decide (318 ≤ c) && decide (c ≤ 322) && r % 10 == 0)
  else if mode = 1 then c == 320 || r == 200
  else false

/-- Where the count of a grid column and row is kept. -/
def gridKey (c r : Nat) : Nat := r * 640 + c

/-- The lowest-numbered channel with a non-zero count at a grid point. -/
def topChannel (maps : Quad Mem) (c r : Nat) : Option Channel :=
  Channel.all.find? fun ch => (maps.get ch).read (gridKey c r) != 0

/-- The colour of a pixel of the screen: the first case of Table 7-1 (R112). -/
def Picture.pixel (p : Picture) (x y : Nat) : Rgb :=
  let index := p.front.read (pixelKey x y)
  if y < 24 then stripPixel p.strip x y
  else if index ≠ 0 then p.palette.getD (index.toNat - 1) .background
  else if 80 ≤ x ∧ x ≤ 719 ∧ 40 ≤ y ∧ y ≤ 439 then
    match topChannel p.maps (x - 80) (y - 40) with
    | some ch => (Channel.colour ch).scaled (shade ((p.maps.get ch).read (gridKey (x - 80) (y - 40))))
    | none => if onGraticule p.graticule (x - 80) (y - 40) then .graticule else .background
  else .background

/-- The picture that a scan-out sends (R126 step 2). -/
def State.picture (s : State) : Picture :=
  { front := s.disp.front, palette := s.disp.palette, maps := s.rend.maps, graticule := s.sett.vals.graticule
    strip := s.strip }

/-! ## Persistence (R106) -/

/-- A count after one frame event in DECAY. -/
def decayed (k : Nat) (count : Byte) : Byte := BitVec.ofNat 8 (count.toNat * (256 - k) / 256)

/-- REND applies the persistence mode to every map. -/
def State.persist (s : State) : State :=
  let v := s.sett.vals
  if v.persistMode = 0 then s.clearMaps
  else if v.persistMode = 1 then
    s.setRend { s.rend with maps := s.rend.maps.map (Mem.mapBytes (decayed v.persistDecay.toNat)) }
  else s

end Sys2Proof.Machine
end

