-- ==== Sys2Proof/Machine/AuthOps.lean ====
section
/-! DEFINITION. The local-request exchange of AUTH (chapter 9). -/

namespace Sys2Proof.Machine

/-- A LOCAL notice with what stands after the event (R161). -/
def State.localNotice (s : State) (ev : LocalEvent) : State :=
  s.present (.localReq ev s.auth.set s.auth.state s.auth.override)

/-- The PRESS of a LOCAL_REQUEST key; whether AUTH takes it (R156). -/
def State.localPress (s : State) : State × Bool :=
  if s.auth.state = .idle ∧ s.auth.set ≠ AuthSet.full then
    ((s.setAuth { s.auth with state := .requested, request := some (Timer.start (msUs 10000)) }).localNotice .requested,
      true)
  else (s, false)

/-- AUTH grants the panel the full set and ends the request (R157, R159). -/
def Auth.grant (a : Auth) : Auth := { a with set := AuthSet.full, state := .idle, request := none }

/-- AUTH enters DENIED (R157, R158). -/
def Auth.deny (a : Auth) : Auth :=
  { a with state := .denied, request := none, denied := some (Timer.start (msUs 2000)) }

/-- The LONG of a LOCAL_REQUEST key; whether AUTH takes it (R159). -/
def State.localLong (s : State) : State × Bool :=
  if s.auth.state = .requested ∧ s.auth.override then ((s.setAuth s.auth.grant).localNotice .overridden, true)
  else (s, false)

/-- A SET_AUTHORITY stores its set and permission, and ends a request (R155). -/
def State.takeSetAuthority (s : State) (tag : Byte) (body : List Byte) : Result :=
  s.request .setAuthority tag body fun s =>
    match decide (15 < (byteAt body 0).toNat), boolArg (byteAt body 1) with
    | false, some allow =>
      let s := s.setAuth { s.auth with set := AuthSet.ofBits (byteAt body 0).toNat, override := allow }
      let s := if s.auth.state = .requested then
          (s.setAuth { s.auth with state := .idle, request := none }).localNotice .resolved
        else s
      .next (s.reply tag [Status.ok.code, BitVec.ofNat 8 s.auth.set.bits, Byte.ofBool s.auth.override, s.auth.state.code])
    | _, _ => .next (s.replyStatus tag .badValue)

/-- The state of the LOCAL lamp source (R160). -/
def Auth.lamp (a : Auth) : LampState :=
  match a.state with
  | .requested => .slow
  | .denied => .fast
  | .idle => if a.set = AuthSet.full then .off else .on

end Sys2Proof.Machine
end

