-- ==== Sys2Proof/Machine/PanelOps.lean ====
section
/-! DEFINITION. Keys and their events, local actions, encoders and their detents, lamps (chapter 8). -/

namespace Sys2Proof.Machine

/-! ## Keys (R136 to R140) -/

def Panel.key (p : Panel) (k : Nat) : Key := p.keys[k]?.getD Key.initial
def Panel.putKey (p : Panel) (k : Nat) (x : Key) : Panel := { p with keys := p.keys.setIfInBounds k x }
def Panel.binding (p : Panel) (k : Nat) : KeyBinding := p.keyBind[k]?.getD KeyBinding.initial

def State.putKey (s : State) (k : Nat) (x : Key) : State := s.setPanel (s.panel.putKey k x)

/-- A KEY notice (R143). -/
def State.keyNotice (s : State) (k : Nat) (ev : KeyEvent) (action : KeyAction) (outcome : KeyOutcome) (st : Status) :
    State :=
  s.present (.key k ev s.panel.ms action outcome st)

/-- The groups a local action needs (Table 8-1). -/
def KeyAction.groups : KeyAction → List Group
  | .runStop | .single | .restore _ => [.acquisition]
  | .force => [.trigger]
  | .clearPersist => [.display]
  | .saveSlot _ => [.store]
  | .recallSlot _ => [.store, .acquisition, .trigger, .display]
  | .report | .localRequest => []

/-- A state and answer of ACQ, TRIG or CHAN, as a status. -/
def withStatus (r : State × ActAnswer) : State × Status := (r.1, r.2.status)

/-- The owner takes a local action and answers (Table 8-1). -/
def State.localAction (s : State) (a : KeyAction) (cond : BitVec 4) : State × Status :=
  match a with
  | .runStop => withStatus (if s.acq.state = .stopped then s.takeRun else s.takeStop)
  | .single => withStatus s.takeSingle
  | .force => withStatus s.takeForce
  | .clearPersist => (s.clearMaps, .ok)
  | .restore ch => withStatus (s.takeRestore ch cond)
  | .saveSlot slot => s.takeStoreOp ⟨.save, .panel, slot, 0, [], some s.image, false⟩
  | .recallSlot slot => s.takeStoreOp ⟨.recall, .panel, slot, 0, [], none, false⟩
  | .report | .localRequest => (s, .ok)

/-- A KEY notice for an event with no outcome of its own, if the report-also flag asks for it (R143). -/
def State.reportAlso (s : State) (k : Nat) (ev : KeyEvent) (b : KeyBinding) (outcome : KeyOutcome) : State :=
  if b.alsoFlag then s.keyNotice k ev b.action outcome .ok else s

/-- A key event that DISP answered act goes to its binding (R142, R143). What the owner queues, the STORE notice of an
operation that completes at once among it, stands before the KEY notice (DESIGN CHOICE, log entry 56). The LONG of a key
rebound to LOCAL_REQUEST while held goes to AUTH as every other LONG of such a key does (R142, R159), although R141 has a key
so rebound not perform its action before its next PRESS (DESIGN CHOICE, log entry 64). -/
def State.takeKeyEvent (s : State) (k : Nat) (ev : KeyEvent) (cond : BitVec 4) : State :=
  let b := s.panel.binding k
  match b.action, ev with
  | .report, _ => s.keyNotice k ev .report .reported .ok
  | .localRequest, .press =>
    let (s, taken) := s.localPress
    if taken then s.reportAlso k .press b .done else s.keyNotice k .press .localRequest .reported .ok
  | .localRequest, .long =>
    let (s, taken) := s.localLong
    if taken then s.reportAlso k .long b .reported else s.keyNotice k .long .localRequest .reported .ok
  | a, .press =>
    if a.groups.all s.auth.set.has then
      let (s, st) := s.localAction a cond
      if st.isDone then s.reportAlso k .press b .done else s.keyNotice k .press a .failed st
    else s.keyNotice k .press a .refused .ok
  | _, ev => s.reportAlso k ev b .reported

/-- A REPEAT, LONG or RELEASE: it is reported to DISP, and dropped if DISP or the hold consumes it (R140). -/
def State.laterEvent (s : State) (k : Nat) (ev : KeyEvent) (consumed : Bool) : State :=
  let (s, act) := s.activity
  if consumed || !act then s else s.takeKeyEvent k ev 0

/-- A key is accepted pressed: a hold opens and the PRESS is produced (R138, R140). -/
def State.acceptPress (s : State) (k : Nat) (cond : BitVec 4) : State :=
  let open_ (consumed : Bool) : Key :=
    ⟨true, 0, false, some ⟨Timer.start (msUs 400), some (Timer.start (msUs 2000)), consumed⟩⟩
  let s := s.putKey k (open_ false)
  let (s, act) := s.activity
  if act then s.takeKeyEvent k .press cond else s.putKey k (open_ true)

/-- A key is accepted released: the RELEASE is produced and the hold closes (R138, R140). -/
def State.acceptRelease (s : State) (k : Nat) : State :=
  let consumed := (s.panel.key k).hold.any Hold.consumed
  (s.putKey k ⟨false, 0, false, none⟩).laterEvent k .release consumed

/-- The ghost guard holds for a key (R137). -/
def Panel.guardHolds (p : Panel) (k : Nat) : Bool :=
  let others := (List.range 64).filter fun j => j != k && (p.key j).pressed
  others.any (fun j => j / 8 == k / 8) && others.any (fun j => j % 8 == k % 8)

/-- One key of one scan (R136, R137). -/
def State.scanKey (s : State) (sensed : BitVec 64) (cond : BitVec 4) (k : Nat) : State :=
  let x := s.panel.key k
  if sensed.getLsbD k = x.pressed then s.putKey k { x with count := 0, blocked := false }
  else if x.count < 3 then s.putKey k { x with count := x.count + 1 }
  else if x.pressed then s.acceptRelease k
  else if s.panel.guardHolds k then s.putKey k { x with count := 4, blocked := true }
  else s.acceptPress k cond

/-! ## Encoders (R144 to R149) -/

def Panel.enc (p : Panel) (e : Nat) : Encoder := p.encs[e]?.getD ⟨false, false, .rest, none⟩
def Panel.putEnc (p : Panel) (e : Nat) (x : Encoder) : Panel := { p with encs := p.encs.setIfInBounds e x }
def Panel.encTarget (p : Panel) (e : Nat) : EncTarget := p.encBind[e]?.getD .report

/-- The number of a phase (A, B) along a clockwise cycle (R144). -/
def phase (a b : Bool) : Nat :=
  match a, b with
  | false, false => 0
  | true, false => 1
  | true, true => 2
  | false, true => 3

/-- The decoder's position when scanning begins (R144). -/
def startPos (a b : Bool) : DecoderPos := if !a && !b then .rest else .lost

/-- The decoder takes a change from one phase to another: its position, and whether the cycle in its direction is
complete (R144). -/
def DecoderPos.advance (p : DecoderPos) (was now : Nat) : DecoderPos × Option Bool :=
  match p with
  | .lost => (if now = 0 then .rest else .lost, none)
  | .rest =>
    if now = (was + 1) % 4 then (.cycle true 1, none)
    else if now = (was + 3) % 4 then (.cycle false 1, none)
    else (.lost, none)
  | .cycle cw q =>
    if now = (was + (if cw then 1 else 3)) % 4 then (if q = 3 then (.rest, some cw) else (.cycle cw (q + 1), none))
    else if now = (was + (if cw then 3 else 1)) % 4 then (if q = 1 then (.rest, none) else (.cycle cw (q - 1), none))
    else (.lost, none)

/-- The run after a detent at a time in µs (R145). -/
def EncRun.next (r : Option EncRun) (cw : Bool) (now : Nat) : EncRun :=
  match r with
  | some r => if r.clockwise = cw ∧ now ≤ r.last + 60000 then ⟨cw, satSucc 65535 r.length, now⟩ else ⟨cw, 1, now⟩
  | none => ⟨cw, 1, now⟩

/-- The acceleration multiplier of a run's length (R145). -/
def multiplier (length : Nat) : Int := if length ≤ 3 then 1 else if length ≤ 9 then 4 else 16

/-- The setting of a target, and its step (Table 8-2). -/
def EncTarget.stepOf (v : Settings) : EncTarget → Option (Setting × Int)
  | .report | .viewSpan => none
  | .trigLevel => some (.trigLevel, match v.source with
    | some ch => 20 * v.scaleMv ch
    | none => 10000)
  | .trigHyst => some (.trigHyst, 1)
  | .position ch => some (.position ch, 1)
  | .scale ch => some (.scale ch, 1)
  | .viewStart => some (.viewStart, max 1 (v.viewSpan / 640))
  | .intensity => some (.intensity, 1)
  | .persistDecay => some (.persistDecay, 1)

/-- An ENCODER notice of a delta not applied (R149). -/
def State.encoderNotice (s : State) (e : Nat) (delta : Int) (refused : Bool) : State :=
  s.present (.encoder e delta refused (s.panel.encTarget e))

/-- The second change of a detent on VIEW_SPAN, which stands over when the first is applied: the delta, and the view start
that it presents (R148). -/
abbrev StartDue := Option (Int × Int)

/-- The first change of a detent on VIEW_SPAN, and the second if it is then due (R148). -/
def State.spanDetent (s : State) (e : Nat) (dir : Int) : State × StartDue :=
  let v := s.sett.vals
  let w := if dir = 1 then min (v.len : Int) (2 * v.viewSpan) else max 640 (v.viewSpan / 2)
  let start := clampInt (v.viewStart + (v.viewSpan - w) / 2) 0 (v.len - w)
  if w = v.viewSpan then (s, none)
  else
    let (s, first) := s.panelChange .viewSpan w
    if first = .refused then (s.encoderNotice e dir true, none) else (s, some (dir, start))

/-- The second change of a detent on VIEW_SPAN, if one is due: refused, the span and the start stand as they are, and the
delta is reported (R148). -/
def State.presentStart (s : State) (e : Nat) : StartDue → State
  | none => s
  | some (dir, start) =>
    let (s, second) := s.panelChange .viewStart start
    if second = .refused then s.encoderNotice e dir true else s

/-- A detent that DISP answered act is taken by its binding (R147, R148). -/
def State.takeDetent (s : State) (e : Nat) (dir delta : Int) : State × StartDue :=
  match s.panel.encTarget e with
  | .report => (s.encoderNotice e delta false, none)
  | .viewSpan => s.spanDetent e dir
  | target =>
    match target.stepOf s.sett.vals with
    | some (k, step) =>
      let (s, answer) := s.panelChange k (s.sett.vals.get k + delta * step)
      (if answer = .refused then s.encoderNotice e delta true else s, none)
    | none => (s, none)

/-- The decoder produces a detent (R145, R147). -/
def State.detent (s : State) (e : Nat) (cw : Bool) : State × StartDue :=
  let x := s.panel.enc e
  let run := EncRun.next x.run cw s.clock
  let s := s.setPanel (s.panel.putEnc e { x with run := some run })
  let dir : Int := if cw then 1 else -1
  let (s, act) := s.activity
  if act then s.takeDetent e dir (dir * multiplier run.length) else (s, none)

/-- A change of an encoder's lines (R144), up to the second change of a detent on VIEW_SPAN; before scanning begins only the
levels change. -/
def State.lineChange (s : State) (e : Nat) (a b : Bool) : State × StartDue :=
  let x := s.panel.enc e
  if x.a = a ∧ x.b = b then (s, none)
  else if !s.panel.scanning then (s.setPanel (s.panel.putEnc e { x with a := a, b := b }), none)
  else
    let (pos, done) := x.pos.advance (phase x.a x.b) (phase a b)
    let s := s.setPanel (s.panel.putEnc e { x with a := a, b := b, pos := pos })
    match done with
    | some cw => s.detent e cw
    | none => (s, none)

/-! ## Lamps (R150, R160) -/

def LampState.ofBool (b : Bool) : LampState := if b then .on else .off

/-- What a lamp shows (Table 8-4). -/
def State.lampShown (s : State) (l : Lamp) : LampState :=
  match l.source with
  | .link => l.state
  | .running => .ofBool s.acq.state.isRunning
  | .stopped => .ofBool (s.acq.state == .stopped)
  | .singleArmed => .ofBool (s.acq.state.isRunning && s.acq.kind == .single)
  | .chanOn ch => .ofBool (s.chanState ch == .on)
  | .chanProtected ch => if s.chanState ch = .isProtected then .fast else .off
  | .localSet => s.auth.lamp
  | .storeBusy => .ofBool s.store.busy
  | .anyStale => .ofBool (Channel.all.any fun ch => (s.chans.unit.get ch).cal == .stale)

/-- Whether a lamp is lit at the lamp clock's present phase (log entry 29). -/
def State.lampLit (s : State) (l : Lamp) : Bool :=
  match s.lampShown l with
  | .off => false
  | .on => true
  | .slow => s.clock / 500000 % 2 == 0
  | .fast => s.clock / 125000 % 2 == 0

/-- The slots of sixteen for which a lamp is driven. -/
def State.lampSlots (s : State) (l : Lamp) : Nat :=
  if s.lampLit l then (if s.disp.power = .dim then s.panel.brightness / 2 else s.panel.brightness) else 0

/-! ## GET_PANEL (R152) -/

/-- The accepted states of eight keys as one byte. -/
def Panel.keyByte (p : Panel) (i : Nat) : Byte :=
  BitVec.ofNat 8 (((List.range 8).map fun j => (p.key (8 * i + j)).pressed.toNat * 2 ^ j).sum)

/-- A key binding's flags byte (R141). -/
def KeyBinding.flags (b : KeyBinding) : Byte := BitVec.ofNat 8 (b.repeatFlag.toNat + 2 * b.alsoFlag.toNat)

def State.panelBody (s : State) : List Byte :=
  let p := s.panel
  [Status.ok.code, Byte.ofBool p.scanning] ++ leBytes 2 p.ms.toNat ++ (List.range 8).map p.keyByte
    ++ p.keyBind.toList.flatMap (fun b => [b.action.code, BitVec.ofNat 8 b.action.slot, b.flags])
    ++ p.encBind.toList.flatMap (fun t => [t.code, BitVec.ofNat 8 t.channel])
    ++ p.lamps.toList.flatMap (fun l => [l.source.code, (s.lampShown l).code])
    ++ [BitVec.ofNat 8 p.brightness]

end Sys2Proof.Machine
end

