-- ==== Sys2Proof/Machine/Acquisition.lean ====
section
/-! DEFINITION. RUN, SINGLE, STOP and the two fill events of ACQ (chapter 4). -/

namespace Sys2Proof.Machine

/-- A request that ACQ or TRIG answers with an outcome or a reason. -/
def answerAct (tag : Byte) (r : State × ActAnswer) : Result := .next (r.1.reply tag r.2.body)

/-- RUN (R61). -/
def execRun (tag : Byte) (body : List Byte) (s : State) : Result :=
  s.request .run tag body fun s => answerAct tag s.takeRun

/-- SINGLE (R62). -/
def execSingle (tag : Byte) (body : List Byte) (s : State) : Result :=
  s.request .single tag body fun s => answerAct tag s.takeSingle

/-- STOP (R68). -/
def execStop (tag : Byte) (body : List Byte) (s : State) : Result :=
  s.request .stop tag body fun s => answerAct tag s.takeStop

/-- PRE_TRIGGER_DEPTH_REACHED, once Q samples have been written (R64). -/
def execPreTriggerDepthReached (s : State) : Result :=
  if s.acq.state = .fillingPre ∧ !s.acq.depth ∧ s.acq.q ≤ s.cap.pre then .next s.reachDepth else .next s

/-- Whether the trigger sample and the L - Q - 1 samples after it have been written (R65). -/
def State.fillDone (s : State) : Bool := !s.cap.awaiting && decide (s.cap.len ≤ s.acq.q + 1 + s.cap.post)

/-- POST_TRIGGER_FILL_COMPLETE, once L - Q - 1 samples have been written after the trigger sample (R65 to R67, R71). -/
def execPostTriggerFillComplete (s : State) : Result :=
  match s.acq.state, s.acq.inFlight with
  | .fillingPost, some i => .next (if s.fillDone then s.completeSegment i else s)
  | _, _ => .next s

end Sys2Proof.Machine
end

