-- ==== Sys2Proof/Machine/Authority.lean ====
section
/-! DEFINITION. SET_AUTHORITY, ANSWER_LOCAL and the two timers of AUTH (chapter 9). -/

namespace Sys2Proof.Machine

/-- SET_AUTHORITY: it also ends a request (R155). -/
def execSetAuthority (tag : Byte) (body : List Byte) (s : State) : Result := s.takeSetAuthority tag body

/-- The reply to ANSWER_LOCAL (R157). -/
def State.answerLocalReply (s : State) (tag : Byte) (st : Status) : State :=
  s.reply tag [st.code, BitVec.ofNat 8 s.auth.set.bits, s.auth.state.code]

/-- ANSWER_LOCAL (R157); a refused value is answered with the same three items (log entry 17). -/
def execAnswerLocal (tag : Byte) (body : List Byte) (s : State) : Result :=
  s.request .answerLocal tag body fun s =>
    match boolArg (byteAt body 0) with
    | none => .next (s.answerLocalReply tag .badValue)
    | some grant =>
      if s.auth.state ≠ .requested then .next (s.answerLocalReply tag .tooLate)
      else if grant then .next (((s.setAuth s.auth.grant).localNotice .granted).answerLocalReply tag .ok)
      else .next (((s.setAuth s.auth.deny).localNotice .denied).answerLocalReply tag .ok)

/-- REQUEST_TIMER_EXPIRY (R158). -/
def execRequestTimerExpiry (s : State) : Result :=
  if s.auth.state = .requested then .next ((s.setAuth s.auth.deny).localNotice .timedOut) else .next s

/-- DENIED_TIMER_EXPIRY (R158). -/
def execDeniedTimerExpiry (s : State) : Result :=
  if s.auth.state = .denied then .next (s.setAuth { s.auth with state := .idle, denied := none }) else .next s

end Sys2Proof.Machine
end

