-- ==== Sys2Proof/Machine/Capture.lean ====
section
/-! DEFINITION. The history, the readout and the memory wake of CAP (chapter 5). -/

namespace Sys2Proof.Machine

/-- The COMPLETE segments of the history, oldest first, by index and record. -/
def Cap.completed (c : Cap) : List (Nat × Filed) :=
  c.history.filterMap fun i => match c.seg i with
    | .complete f => some (i, f)
    | _ => none

/-- One entry of the GET_HISTORY reply (R83). -/
def Filed.historyEntry (f : Filed) : List Byte :=
  leBytes 6 f.seq ++ leBytes 6 f.trigTime.toNat
    ++ [BitVec.ofNat 8 (f.forced.toNat + 2 * f.draw.toNat + 4 * f.read.toNat), BitVec.ofNat 8 f.invalid.bits]

/-- The reply to GET_HISTORY (R83). -/
def State.historyBody (s : State) (fromSeq : Nat) : List Byte :=
  let v := s.sett.vals
  let found := (s.cap.completed.map Prod.snd).filter fun f => fromSeq ≤ f.seq
  let listed := found.take 64
  [Status.ok.code, BitVec.ofNat 8 listed.length, Byte.ofBool (decide (64 < found.length))]
    ++ leBytes 2 s.sett.gen.toNat ++ leBytes 2 s.cap.segs.length ++ leInt 1 v.acqLength ++ leBytes 4 v.q
    ++ [BitVec.ofNat 8 v.enabled.bits] ++ listed.flatMap Filed.historyEntry

/-- GET_HISTORY (R83). -/
def execGetHistory (tag : Byte) (body : List Byte) (s : State) : Result :=
  s.request .getHistory tag body fun s => .next (s.reply tag (s.historyBody (ofLe body)))

/-! ## Readout (R84 to R87) -/

/-- What an OPEN_READOUT answers: the first check that fails, or the segment, its record, the channel, the effective
count, and whether the count was limited (R84). -/
inductive ReadoutAnswer where
  | refused (st : Status)
  | taken (seg : Nat) (f : Filed) (ch : Channel) (count : Nat) (limited : Bool)
  deriving DecidableEq, Repr

def Cap.checkReadout (c : Cap) (a : ReadoutArgs) : ReadoutAnswer :=
  if c.readout.isOpen then .refused .busy
  else match Channel.ofNum? a.ch, c.completed.find? (fun p => p.2.seq == a.seq) with
    | none, _ => .refused .badValue
    | some _, none => .refused .notFound
    | some ch, some (i, f) =>
      if !f.present.get ch || decide (c.len ≤ a.start) || a.stride == 0 || decide (1024 < a.stride) || a.count == 0 then
        .refused .badValue
      else
        let limit := (c.len - 1 - a.start) / a.stride + 1
        .taken i f ch (min a.count limit) (decide (limit < a.count))

/-- The reply of an accepted OPEN_READOUT (R84). -/
def Filed.readoutBody (f : Filed) (status : Status) (c : Cursor) : List Byte :=
  [status.code] ++ leBytes 6 f.seq ++ leBytes 2 c.seg ++ [BitVec.ofNat 8 c.ch.num] ++ leBytes 4 c.next
    ++ leBytes 4 c.remaining ++ leBytes 2 c.stride ++ leBytes 4 f.q ++ leBytes 6 f.trigTime.toNat
    ++ [Byte.ofBool f.wall.isSome] ++ leBytes 4 (f.wall.getD 0).toNat
    ++ [Byte.ofBool f.forced, Byte.ofBool (f.invalid.get c.ch)] ++ leBytes 2 f.gen.toNat

/-- A readout becomes OPEN: the reply is queued and the idle timer starts (R84, R87). -/
def State.openNow (s : State) (f : Filed) (tag : Byte) (status : Status) (c : Cursor) : State :=
  (s.setCap { s.cap with readout := .opened c, idle := some (Timer.start (msUs 2000)) }).reply tag
    (f.readoutBody status c)

/-- OPEN_READOUT (R84). -/
def execOpenReadout (tag : Byte) (body : List Byte) (s : State) : Result :=
  s.request .openReadout tag body fun s =>
    let a := readoutArgs body
    match s.cap.checkReadout a with
    | .refused st => .next (s.replyStatus tag st)
    | .taken i f ch count limited =>
      let status : Status := if limited then .clamped else .ok
      let cursor : Cursor := ⟨i, ch, a.start, a.stride, count⟩
      let s := s.setCap (s.cap.putSeg i (.complete { f with read := true }))
      if s.cap.power = .active then .next (s.openNow f tag status cursor)
      else .next (s.setCap { s.cap with readout := .opening cursor tag status [] }).beginWake

/-- The record of a COMPLETE segment. -/
def Segment.filed? : Segment → Option Filed
  | .complete f => some f
  | _ => none

/-- The readout ends and its hold leaves the segment (R81, R85 to R87, R89). -/
def State.endReadout (s : State) (i : Nat) : State :=
  (s.setCap { s.cap with readout := .closed, idle := none }).releaseHold false i

/-- One chunk of an OPEN readout (R85); none when its record does not lie within the capture memory. -/
def State.serveChunk (s : State) (tag : Byte) (c : Cursor) : Option State :=
  match (s.cap.seg c.seg).filed? with
  | none => none
  | some f =>
    if s.cap.fits c.seg f.present f.q then
      let n := min 512 c.remaining
      let samples := (List.range n).map fun k => s.cap.sample c.seg f c.ch (c.next + k * c.stride)
      let c' : Cursor := { c with next := c.next + n * c.stride, remaining := c.remaining - n }
      let last := decide (c'.remaining = 0)
      let s := s.reply tag ([Status.ok.code, Byte.ofBool last] ++ leBytes 2 n ++ samples)
      if last then some (s.endReadout c.seg)
      else some (s.setCap { s.cap with readout := .opened c', idle := some (Timer.start (msUs 2000)) })
    else none

/-- READ_CHUNK by the readout state (R85, R88). -/
def State.readChunk (s : State) (tag : Byte) : Option State :=
  match s.cap.readout with
  | .closed => some (s.replyBadState tag .noReadout)
  | .abandoned => some ((s.setCap { s.cap with readout := .closed }).replyStatus tag .abandoned)
  | .opening c t st waiting => some (s.setCap { s.cap with readout := .opening c t st (waiting ++ [tag]) })
  | .opened c => s.serveChunk tag c

/-- READ_CHUNK (R85). -/
def execReadChunk (tag : Byte) (body : List Byte) (s : State) : Result :=
  s.request .readChunk tag body fun s =>
    match s.readChunk tag with
    | some s => .next s.examineMemory
    | none => .fault .outsideCaptureMemory

/-- The reply to CLOSE_READOUT (R86). -/
def State.closeReply (s : State) (tag outcome : Byte) : State := s.reply tag [Status.ok.code, outcome]

/-- CLOSE_READOUT (R86). -/
def execCloseReadout (tag : Byte) (body : List Byte) (s : State) : Result :=
  s.request .closeReadout tag body fun s =>
    match s.cap.readout with
    | .opened c => .next ((s.endReadout c.seg).closeReply tag 0).examineMemory
    | .opening c t _ waiting =>
      .next (((s.endReadout c.seg).closeOpening t waiting).closeReply tag 0).examineMemory
    | .abandoned => .next ((s.setCap { s.cap with readout := .closed }).closeReply tag 2)
    | .closed => .next (s.closeReply tag 1)

/-- READOUT_IDLE_TIMEOUT (R87). -/
def execReadoutIdleTimeout (s : State) : Result :=
  match s.cap.readout, s.cap.idle with
  | .opened c, some _ => .next (s.endReadout c.seg).examineMemory
  | _, _ => .next s

/-! ## Wake (R63, R84, R85, R90) -/

/-- ACQ, waiting in ARMING for the memory, asks for its segment (R63). -/
def State.wakeAcq (s : State) : State := if s.acq.state = .arming then s.requestSegment else s

/-- The waiting READ_CHUNKs are answered in order. -/
def State.serveWaiting (s : State) : List Byte → Option State
  | [] => some s
  | t :: r => (s.readChunk t).bind fun s => s.serveWaiting r

/-- A readout that waited for the memory becomes OPEN, and the READ_CHUNKs behind it are served (R84, R85). -/
def State.wakeReadout (s : State) : Option State :=
  match s.cap.readout with
  | .opening c tag status waiting =>
    match (s.cap.seg c.seg).filed? with
    | some f => (s.openNow f tag status c).serveWaiting waiting
    | none => none
  | _ => some s

/-- MEMORY_WAKE_END (R90; log entry 38). -/
def execMemoryWakeEnd (s : State) : Result :=
  if s.cap.power = .waking then
    match (s.setCap { s.cap with power := .active }).wakeAcq.wakeReadout with
    | some s => .next s.examineMemory
    | none => .fault .outsideCaptureMemory
  else .next s

end Sys2Proof.Machine
end

