-- ==== Sys2Proof/Machine/Channels.lean ====
section
/-! DEFINITION. SELF_CAL, GET_CAL, RESTORE_CHANNEL and the events of CHAN (chapter 2). -/

namespace Sys2Proof.Machine

/-- The channels of a set, in ascending number. -/
def ChSet.members (x : ChSet) : List Channel := Channel.all.filter x.get

/-- Why CHAN refuses a SELF_CAL, if it does (R30). -/
def State.selfCalRefusal (s : State) (named : ChSet) : Option Reason :=
  if s.acq.state = .calibrating then some .calibrating
  else if s.acq.state ≠ .stopped then some .acqRunning
  else if (named.inter s.latched).bits ≠ 0 then some .channelProtected
  else none

/-- CHAN places ACQ in CALIBRATING (R30, R72, R39). -/
def State.enterCalibrating (s : State) : State :=
  let s := s.setAcq { s.acq with state := .calibrating }
  (s.setTrig s.trig.disarm).acqNotice .calibrating .request

/-- SELF_CAL (R30, R31). -/
def execSelfCal (tag : Byte) (body : List Byte) (s : State) : Result :=
  s.request .selfCal tag body fun s =>
    let v := (byteAt body 0).toNat
    if v = 0 ∨ 15 < v then .next (s.replyStatus tag .badValue)
    else
      let named := ChSet.ofBits v
      match s.selfCalRefusal named with
      | some r => .next (s.replyBadState tag r)
      | none => .next (s.enterCalibrating.nextTurn tag named (ChSet.members named) [])

/-- One channel's entry of the GET_CAL reply (R36). -/
def State.calEntry (s : State) (ch : Channel) : List Byte :=
  let u := s.chans.unit.get ch
  let r := u.record
  [(s.chanState ch).code, Byte.ofBool u.latch, u.cal.code, Byte.ofBool r.valid] ++ leInt 1 r.calOffset
    ++ leInt 2 r.calTemp ++ leInt 1 r.tempco ++ leInt 2 r.staleLimit ++ leBytes 2 r.calCount ++ leInt 1 u.t
    ++ leInt 1 u.d ++ [Byte.ofBool u.takeTarget]

/-- The reply to GET_CAL (R36). -/
def State.calBody (s : State) : List Byte :=
  [Status.ok.code] ++ leInt 2 s.chans.temp ++ [Byte.ofBool s.chans.sampled] ++ Channel.all.flatMap s.calEntry

/-- GET_CAL (R36). -/
def execGetCal (tag : Byte) (body : List Byte) (s : State) : Result :=
  s.request .getCal tag body fun s => .next (s.reply tag s.calBody)

/-- RESTORE_CHANNEL (R22). -/
def execRestoreChannel (tag : Byte) (body : List Byte) (cond : BitVec 4) (s : State) : Result :=
  s.request .restoreChannel tag body fun s =>
    match Channel.ofNum? (byteAt body 0).toNat with
    | none => .next (s.replyStatus tag .badValue)
    | some ch =>
      match s.takeRestore ch cond with
      | (s, .ok _) => .next (s.replyStatus tag .ok)
      | (s, .bad r) => .next (s.replyBadState tag r)

/-- OVERLOAD_REPORT (R20, R32). -/
def execOverloadReport (ch : Channel) (s : State) : Result := .next (s.overload ch)

/-- TEMPERATURE_SAMPLE (R25 to R29); the channels are taken, and their notices queued, in ascending number (DESIGN
CHOICE, log entry 44). -/
def execTemperatureSample (value : Int) (s : State) : Result :=
  let s := s.setChans { s.chans with temp := clampInt value (-400) 1250, sampled := true }
  .next (if s.link.started then Channel.all.foldl State.trackChannel s else s)

/-- CAL_TURN_END (R31 to R34). -/
def execCalTurnEnd (mean16 : Nat) (cond : BitVec 4) (s : State) : Result :=
  match s.chans.selfCal with
  | none => .next s
  | some c =>
    let (s, outcome) := s.judgeTurn c mean16
    .next (s.endTurn c ⟨c.turn, mean16, outcome⟩ cond)

end Sys2Proof.Machine
end

