-- ==== Sys2Proof/Machine/Display.lean ====
section
/-! DEFINITION. The overlay requests, the display requests and the display's own events (chapter 7). -/

namespace Sys2Proof.Machine

/-! ## Overlay requests (R119 to R124) -/

/-- A drawing command that passed its body checks: answered OK when queued, QUEUE_FULL otherwise (R119). -/
def State.takeDrawing (s : State) (tag : Byte) : Option Overlay → Result
  | none => .next (s.replyStatus tag .badValue)
  | some c =>
    match s.queueOverlay c with
    | some s => .next (s.replyStatus tag .ok)
    | none => .next (s.replyStatus tag .queueFull)

/-- FILL_RECT (R120). -/
def execFillRect (tag : Byte) (body : List Byte) (s : State) : Result :=
  s.request .fillRect tag body fun s => s.takeDrawing tag (fillRectArgs body)

/-- PUT_TEXT (R121). -/
def execPutText (tag : Byte) (body : List Byte) (s : State) : Result :=
  s.request .putText tag body fun s => s.takeDrawing tag (putTextArgs body)

/-- PUT_PIXELS (R122). -/
def execPutPixels (tag : Byte) (body : List Byte) (s : State) : Result :=
  s.request .putPixels tag body fun s => s.takeDrawing tag (putPixelsArgs body)

/-- END_BATCH: answered at its flip (R123). -/
def execEndBatch (tag : Byte) (body : List Byte) (s : State) : Result :=
  s.request .endBatch tag body fun s =>
    match s.queueOverlay (.endBatch tag) with
    | some s => .next s
    | none => .next (s.replyStatus tag .queueFull)

/-- PLANE_SYNC_COMPLETE: the copy of the front plane stands in the back plane, and the head may be carried out (R124;
log entry 32). -/
def execPlaneSyncComplete (s : State) : Result :=
  if s.disp.sync then .next (s.setDisp { s.disp.putBack s.disp.front with sync := false }).pump else .next s

/-- FRAME_EVENT (R125, R126, R106). -/
def execFrameEvent (s : State) : Result :=
  if s.disp.power.isLit then
    let s := s.frameFlip
    let s := s.setDisp { s.disp with shown := .picture s.picture }
    .next s.persist
  else .next s

/-! ## Display requests (R118, R132, R133) -/

/-- SET_PALETTE (R118). -/
def execSetPalette (tag : Byte) (body : List Byte) (s : State) : Result :=
  s.request .setPalette tag body fun s =>
    let i := (byteAt body 0).toNat
    if i = 0 ∨ 15 < i then .next (s.replyStatus tag .badValue)
    else
      let colour : Rgb := ⟨byteAt body 1, byteAt body 2, byteAt body 3⟩
      .next ((s.setDisp { s.disp with palette := s.disp.palette.set (i - 1) colour }).replyStatus tag .ok)

/-- What SET_DISPLAY_POWER does in each power state (Table 7-5): 0 ON, 1 DIM, 2 BLANK; none for a refusal. -/
def State.powerRequest (s : State) (req : Nat) : Option State :=
  match s.disp.power, req with
  | .blank, 0 => some (s.beginPowerUp .request)
  | .blank, 1 => none
  | .blank, _ => some s
  | .poweringUp, 0 => some (s.setDisp { s.disp with blankPending := false })
  | .poweringUp, 1 => none
  | .poweringUp, _ => some (s.setDisp { s.disp with blankPending := true })
  | .on, 0 => some s
  | .on, 1 => some s.dim
  | .on, _ => some (s.beginPowerDown .request)
  | .dim, 0 => some (s.brighten .request)
  | .dim, 1 => some s
  | .dim, _ => some (s.beginPowerDown .request)
  | .poweringDown, 0 =>
    some (s.setDisp { s.disp with wakePending := some (s.disp.wakePending.getD .request) })
  | .poweringDown, 1 => none
  | .poweringDown, _ => some (s.setDisp { s.disp with wakePending := none })

/-- The reply to SET_DISPLAY_POWER (R132). -/
def State.powerBody (s : State) (status : Status) : List Byte :=
  [status.code, s.disp.power.code, BitVec.ofNat 8 s.disp.onLevel, BitVec.ofNat 8 s.disp.dimLevel]

/-- SET_DISPLAY_POWER (R132): both levels are stored and, in ON or DIM, the idle timer restarts. A refused requested state
is answered with the same four items (log entry 17) and leaves the levels and the idle timer as they were (DESIGN CHOICE,
log entry 65). The reply to an END_BATCH that flips at the power-down is queued
before the reply to this request (DESIGN CHOICE, log entry 53). -/
def execSetDisplayPower (tag : Byte) (body : List Byte) (s : State) : Result :=
  s.request .setDisplayPower tag body fun s =>
    let req := (byteAt body 0).toNat
    let on := (byteAt body 1).toNat
    let dim := (byteAt body 2).toNat
    if 2 < req then .next (s.reply tag (s.powerBody .badValue))
    else match s.powerRequest req with
      | none => .next (s.replyBadState tag .panelDark)
      | some s =>
        let status : Status := if 15 < on ∨ 15 < dim then .clamped else .ok
        let s := s.setDisp { s.disp with onLevel := min 15 on, dimLevel := min 15 dim }
        let s := if s.disp.power.isLit then s.restartIdle else s
        .next (s.reply tag (s.powerBody status))

/-- SET_DISPLAY_TIMEOUTS (R133). -/
def execSetDisplayTimeouts (tag : Byte) (body : List Byte) (s : State) : Result :=
  s.request .setDisplayTimeouts tag body fun s =>
    let s := s.setDisp { s.disp with dimTimeout := ofLe (slice body 0 2), blankTimeout := ofLe (slice body 2 2) }
    let s := if s.disp.power.isLit then s.restartIdle else s
    .next (s.reply tag ([Status.ok.code] ++ leBytes 2 s.disp.dimTimeout ++ leBytes 2 s.disp.blankTimeout))

/-! ## Steps of the power sequences and the idle timer (R127, R128, R130) -/

/-- Power-up, step 2: scanning begins, with pictures of the background colour (R127). -/
def execPanelScanningBegins (s : State) : Result :=
  if s.disp.power = .poweringUp ∧ !s.disp.scanning then
    .next (s.setDisp { s.disp with scanning := true, shown := .background })
  else .next s

/-- Power-up, step 3: the state becomes ON; a remembered request for BLANK is carried out (R127, R128). -/
def execBacklightOn (s : State) : Result :=
  if s.disp.power = .poweringUp ∧ s.disp.scanning then
    let s := s.setDisp { s.disp with power := .on, idle := some 0 }
    let s := (s.displayNotice .on s.disp.cause).examineDraw
    .next (if s.disp.blankPending then
      (s.setDisp { s.disp with blankPending := false }).beginPowerDown .request else s)
  else .next s

/-- Power-down, step 2: scanning stops (R127). -/
def execPanelScanningStops (s : State) : Result :=
  if s.disp.power = .poweringDown ∧ s.disp.scanning then
    .next (s.setDisp { s.disp with scanning := false, shown := .nothing })
  else .next s

/-- Power-down, step 3: the state becomes BLANK; a remembered wake is carried out (R127, R128; log entry 25). -/
def execPanelLogicDisabled (s : State) : Result :=
  if s.disp.power = .poweringDown ∧ !s.disp.scanning then
    let wake := s.disp.wakePending
    let s := s.setDisp { s.disp with power := .blank, logic := false, wakePending := none }
    let s := (s.displayNotice .blank s.disp.cause).examineMemory
    .next (match wake with
      | some cause => s.beginPowerUp cause
      | none => s)
  else .next s

/-- DIM_EXPIRY (R130); a dim timeout of 0 never expires. -/
def execDimExpiry (s : State) : Result :=
  if s.disp.power = .on ∧ s.disp.dimTimeout ≠ 0 then .next s.dim else .next s

/-- BLANK_EXPIRY (R130); a blank timeout of 0 never expires. -/
def execBlankExpiry (s : State) : Result :=
  if s.disp.power.isLit ∧ s.disp.blankTimeout ≠ 0 then .next (s.beginPowerDown .timeout) else .next s

end Sys2Proof.Machine
end

