-- ==== Sys2Proof/Machine/Link.lean ====
section
/-! DEFINITION. The link commands but the resets: framing, outbound frames, identification, status, the clock and the
notice mask (chapter 11). -/

namespace Sys2Proof.Machine

/-! ## Chip select and inbound frames (R178) -/

/-- ATTN is asserted while a queue or the output buffer holds a frame (R182). -/
def State.attn (s : State) : Bool :=
  !s.link.replies.isEmpty || !s.link.notices.isEmpty || s.link.outBuf.isSome

/-- The bytes of a frame being assembled among the bytes clocked in since the last frame: those from the sync byte on. -/
def partialFrame (residue : List Byte) : List Byte := residue.dropWhile fun b => b != 0x5A

/-- The body length a frame gives in its bytes 3 and 4 (R177). -/
def frameLength (frame : List Byte) : Nat := ofLe (slice frame 3 2)

/-- Whether bytes are the beginning of a frame whose last byte is still to come. -/
def isUnfinished (frame : List Byte) : Bool :=
  frame.length < 5 || (frameLength frame ≤ 1024 && frame.length < 7 + frameLength frame)

/-- Chip select is released: a frame being assembled is discarded as RELEASED (R178; log entry 10), and a frame not sent
whole will be sent again from its sync byte (R182). -/
def execChipSelectRelease (residue : List Byte) (s : State) : Result :=
  let l := s.link
  let frame := partialFrame residue
  let l := if l.rx = .awaitingSync ∧ !frame.isEmpty ∧ isUnfinished frame then l.error .released else l
  .next (s.setLink { l with outBuf := l.outBuf.map fun f => { f with sent := 0 } })

/-- Chip select is asserted: a receiver that ignored every byte since a LENGTH error assembles again (R178). -/
def execChipSelectAssert (s : State) : Result := .next (s.setLink { s.link with rx := .awaitingSync })

/-- Whether the check of a whole frame fails (R177, R178). -/
def badCheck (frame : List Byte) : Bool :=
  let n := frameLength frame
  frame.length == 7 + n
    && slice frame (5 + n) 2 != leBytes 2 (crc16 (slice frame 1 (4 + n))).toNat

/-- Why a frame is discarded, if it is: LENGTH or CHECK (R178). -/
def discardCause (frame : List Byte) : Option LinkCause :=
  if byteAt frame 0 ≠ 0x5A ∨ frame.length < 5 then none
  else if 1024 < frameLength frame then some .length
  else if badCheck frame then some .check
  else none

/-- A frame with a body length above 1024 or a check that does not match is discarded (R178). -/
def execInboundFrameDiscarded (frame : List Byte) (s : State) : Result :=
  if s.link.rx = .ignoring then .next s
  else match discardCause frame with
    | some .length => .next (s.setLink { s.link.error .length with rx := .ignoring })
    | some cause => .next (s.setLink (s.link.error cause))
    | none => .next s

/-- Whether a frame is a RESET_PART that R180 takes before every check. -/
def State.takesReset (s : State) (kind : Byte) (body : List Byte) : Bool :=
  s.link.started && kind == ReqKind.resetPart.code && body.isEmpty

/-- A valid frame meets 16 used places: it is discarded and never answered (R180). -/
def execNoRoom (kind _tag : Byte) (body : List Byte) (s : State) : Result :=
  if s.link.rx = .ignoring ∨ s.link.used < 16 ∨ s.takesReset kind body then .next s
  else .next (s.setLink (s.link.error .noRoom))

/-- A frame whose kind is no request kind is answered UNKNOWN_KIND (R181 step 1). -/
def execUnknownKind (kind tag : Byte) (_body : List Byte) (s : State) : Result :=
  if s.link.rx = .ignoring ∨ (ReqKind.ofCode? kind).isSome then .next s
  else if 16 ≤ s.link.used then .next (s.setLink (s.link.error .noRoom))
  else .next (s.setLink (s.link.answer kind tag [Status.unknownKind.code]))

/-! ## Outbound frames (R182, R185) -/

/-- A shared place is freed while notices have been lost: OVERFLOW takes it (R185). -/
def Link.overflow (l : Link) (left : Notice) : Link :=
  if left.isShared ∧ 0 < l.lost then
    if l.mask.getLsbD 11 then { l with notices := l.notices ++ [.overflow l.lost], lost := 0 } else { l with lost := 0 }
  else l

/-- With the output buffer empty LINK chooses the next frame, the oldest reply or else the oldest notice, which leaves its
queue and enters the buffer (R182). -/
def Link.chooseFrame (l : Link) : Link :=
  match l.outBuf, l.replies, l.notices with
  | some _, _, _ => l
  | none, r :: rs, _ => { l with replies := rs, outBuf := some ⟨frameBytes r.kind r.tag r.body, 0⟩ }
  | none, [], n :: ns => { l with notices := ns, outBuf := some ⟨frameBytes n.kindByte 0 n.body, 0⟩ }.overflow n
  | none, [], [] => l

/-- The byte that LINK sends with the next clock: the next byte of the frame in the buffer, the sync byte of one chosen with
that clock, and 0x00 while the buffer and both queues are empty (R182). -/
def Link.byteOut (l : Link) : Byte :=
  match l.chooseFrame.outBuf with
  | some f => f.bytes.getD f.sent 0
  | none => 0

/-- The byte the part sends with the next clock (R182). -/
def State.byteOut (s : State) : Byte := s.link.byteOut

/-- The bytes of the frame in the output buffer that are still to go out (R182). -/
def Link.bytesLeft (l : Link) : List Byte :=
  match l.outBuf with
  | some f => f.bytes.drop f.sent
  | none => []

/-- One byte of a frame goes out; with its last byte the buffer is empty (R182). -/
def OutFrame.sendByte (f : OutFrame) : Option OutFrame :=
  if f.sent + 1 < f.bytes.length then some { f with sent := f.sent + 1 } else none

/-- The host clocks a byte, and `Link.byteOut` goes out with it (R182). -/
def Link.clockByte (l : Link) : Link :=
  let l := l.chooseFrame
  { l with outBuf := l.outBuf.bind OutFrame.sendByte }

/-- The host clocks a byte: the next frame enters an empty output buffer and its sync byte goes out; a frame that a release
cut off is sent again from its sync byte (R182; log entry 36). With a frame going out it is the clock of a later byte, which
has no row of its own in the table (DESIGN CHOICE, log entry 51). -/
def execOutboundFrameStart (s : State) : Result := .next (s.setLink s.link.clockByte)

/-- The last byte of the frame in the output buffer is out, and every byte of it left before that, `Link.bytesLeft`, has gone
out (R182; DESIGN CHOICE, log entry 51). -/
def execOutboundFrameEnd (s : State) : Result := .next (s.setLink { s.link with outBuf := none })

/-! ## Identification, status and the clock (R184, R188 to R190) -/

/-- The reply to IDENTIFY (R188). -/
def identifyBody : List Byte :=
  [Status.ok.code] ++ leBytes 2 0x4E42 ++ leBytes 2 460 ++ [1, 4, 28, 32, 64, 6, 32, 8, 16, 64, 32, 4] ++ leBytes 2 1024

def execIdentify (tag : Byte) (body : List Byte) (s : State) : Result :=
  s.request .identify tag body fun s => .next (s.reply tag identifyBody)

def execEcho (tag : Byte) (body : List Byte) (s : State) : Result :=
  s.request .echo tag body fun s => .next (s.reply tag (Status.ok.code :: body))

/-- The reply to GET_STATUS (Table 11-7). -/
def State.statusBody (s : State) : List Byte :=
  [Status.ok.code, Byte.ofBool s.link.started, s.acq.state.code, s.acq.kind.code, Byte.ofBool s.acq.stopPending]
    ++ leBytes 2 s.sett.gen.toNat ++ leBytes 6 s.acq.seq
    ++ Channel.all.map (fun ch => (s.chanState ch).code) ++ Channel.all.map (fun ch => (s.chans.unit.get ch).cal.code)
    ++ [s.cap.power.code, s.disp.power.code, BitVec.ofNat 8 s.auth.set.bits, s.auth.state.code,
        Byte.ofBool s.auth.override, BitVec.ofNat 8 s.store.queue.length, Byte.ofBool s.store.busy,
        Byte.ofBool s.link.todSet]
    ++ leBytes 4 (if s.link.todSet then s.link.tod.toNat else 0) ++ leBytes 2 s.link.errors ++ leBytes 2 s.link.lost

def execGetStatus (tag : Byte) (body : List Byte) (s : State) : Result :=
  s.request .getStatus tag body fun t => .next (t.reply tag s.statusBody)

/-- SET_CLOCK (R190; log entry 28). -/
def execSetClock (tag : Byte) (body : List Byte) (s : State) : Result :=
  s.request .setClock tag body fun s =>
    .next ((s.setLink { s.link with tod := BitVec.ofNat 32 (ofLe body), todSet := true, todUs := 0 }).replyStatus tag .ok)

/-- SET_NOTICE_MASK: the READY flag is stored as 1 (R184). -/
def execSetNoticeMask (tag : Byte) (body : List Byte) (s : State) : Result :=
  s.request .setNoticeMask tag body fun s =>
    let m := ofLe body
    if 4096 ≤ m then .next (s.replyStatus tag .badValue)
    else
      let stored : BitVec 12 := BitVec.ofNat 12 m ||| 1
      .next ((s.setLink { s.link with mask := stored }).reply tag (Status.ok.code :: leBytes 2 stored.toNat))

end Sys2Proof.Machine
end

