-- ==== Sys2Proof/Machine/Panel.lean ====
section
/-! DEFINITION. The panel's events and the requests that bind keys, knobs and lamps (chapter 8). -/

namespace Sys2Proof.Machine

/-- MATRIX_SCAN: the keys are examined in ascending number (R136). -/
def execMatrixScan (sensed : BitVec 64) (cond : BitVec 4) (s : State) : Result :=
  .next (if s.panel.scanning then (List.range 64).foldl (fun s k => s.scanKey sensed cond k) s else s)

/-- REPEAT_TIMER_DUE: the timer is set 80 ms later, and with the repeat flag set a REPEAT is produced (R139). -/
def execRepeatTimerDue (key : Fin 64) (s : State) : Result :=
  let x := s.panel.key key
  match x.hold with
  | none => .next s
  | some h =>
    let s := s.putKey key { x with hold := some { h with repeatTimer := Timer.start (msUs 80) } }
    .next (if (s.panel.binding key).repeatFlag then s.laterEvent key .repeat h.consumed else s)

/-- LONG_TIMER_DUE: one LONG for the hold (R139). -/
def execLongTimerDue (key : Fin 64) (s : State) : Result :=
  let x := s.panel.key key
  match x.hold with
  | none => .next s
  | some h =>
    if h.longTimer.isNone then .next s
    else
      let s := s.putKey key { x with hold := some { h with longTimer := none } }
      .next (s.laterEvent key .long h.consumed)

/-- ENCODER_LINE_CHANGE (R144 to R149). A SET_AUTHORITY that comes with it is taken between the two panel changes of a detent
on VIEW_SPAN, and after the command's whole effect where no second change is due (R148; log entry 48). -/
def execEncoderLineChange (enc : Fin 6) (lines : Bool × Bool) (between : Option (Byte × List Byte)) (s : State) : Result :=
  let (s, due) := s.lineChange enc lines.1 lines.2
  match between with
  | none => .next (s.presentStart enc due)
  | some (tag, body) =>
    match s.takeSetAuthority tag body with
    | .next s => .next (s.presentStart enc due)
    | .fault f => .fault f
    | .refused r => .refused r

/-- SET_KEY_BINDING (R141). -/
def execSetKeyBinding (tag : Byte) (body : List Byte) (s : State) : Result :=
  s.request .setKeyBinding tag body fun s =>
    match keyBindingArgs body with
    | none => .next (s.replyStatus tag .badValue)
    | some (k, b) =>
      .next ((s.setPanel { s.panel with keyBind := s.panel.keyBind.setIfInBounds k b }).replyStatus tag .ok)

/-- SET_ENCODER_BINDING: the encoder's run ends (R145, R146). -/
def execSetEncoderBinding (tag : Byte) (body : List Byte) (s : State) : Result :=
  s.request .setEncoderBinding tag body fun s =>
    match encBindingArgs body with
    | none => .next (s.replyStatus tag .badValue)
    | some (e, t) =>
      let p := s.panel.putEnc e { s.panel.enc e with run := none }
      .next ((s.setPanel { p with encBind := p.encBind.setIfInBounds e t }).replyStatus tag .ok)

/-- SET_LED (R151). -/
def execSetLed (tag : Byte) (body : List Byte) (s : State) : Result :=
  s.request .setLed tag body fun s =>
    match ledArgs body with
    | none => .next (s.replyStatus tag .badValue)
    | some (.lamp n l) =>
      .next ((s.setPanel { s.panel with lamps := s.panel.lamps.setIfInBounds n l }).replyStatus tag .ok)
    | some (.brightness b) =>
      .next ((s.setPanel { s.panel with brightness := min 15 b }).replyStatus tag (if 15 < b then .clamped else .ok))

/-- GET_PANEL (R152). -/
def execGetPanel (tag : Byte) (body : List Byte) (s : State) : Result :=
  s.request .getPanel tag body fun s => .next (s.reply tag s.panelBody)

end Sys2Proof.Machine
end

