-- ==== Sys2Proof/Machine/Render.lean ====
section
/-! DEFINITION. DRAW_COLUMN and CLEAR_PERSIST (chapter 6). -/

namespace Sys2Proof.Machine

/-- CLEAR_PERSIST (R109). -/
def execClearPersist (tag : Byte) (body : List Byte) (s : State) : Result :=
  s.request .clearPersist tag body fun s => .next (s.clearMaps.replyStatus tag .ok)

/-! ## From samples to rows (R96 to R100) -/

/-- The first record index that a column covers (R96). -/
def Pass.columnStart (p : Pass) (c : Nat) : Nat := p.s + c * p.w / 640

/-- How many record indices a column covers (R96). -/
def Pass.columnCount (p : Pass) (c : Nat) : Nat := p.columnStart (c + 1) - p.columnStart c

/-- The row of a code (R97). -/
def gridRow (code : Nat) (d p : Int) : Int := 199 - (((code : Int) - 128 + d) * 25 + 16 * p) / 16

/-- The largest and the smallest of codes. -/
def maxCode (codes : List Byte) : Nat := codes.foldl (fun m b => max m b.toNat) 0
def minCode (codes : List Byte) : Nat := codes.foldl (fun m b => min m b.toNat) 255

/-- The own span of a column (R98 step 1). -/
def ownSpan (codes : List Byte) (d p : Int) : Int × Int := (gridRow (maxCode codes) d p, gridRow (minCode codes) d p)

/-- The connection to the previous column's own span (R98 step 2). -/
def connect (own : Int × Int) : Option (Int × Int) → Int × Int
  | none => own
  | some (pHi, pLo) =>
    if own.2 < pHi - 1 then (own.1, pHi - 1)
    else if pLo + 1 < own.1 then (pLo + 1, own.2)
    else own

/-- A hit (R101). -/
def hitCount (h : Nat) (count : Byte) : Byte := BitVec.ofNat 8 (min 255 (count.toNat + h))

def Mem.hit (m : Mem) (h key : Nat) : Mem := m.write key (hitCount h (m.read key))

/-- What one column gives for one channel: its map, and the findings ABOVE and BELOW (R99, R100). -/
structure ColumnResult where
  map   : Mem
  above : Bool
  below : Bool
  deriving DecidableEq, Repr

/-- Every row of a span that lies on the grid receives a hit; a span wholly off the grid is a finding (R99, R100). -/
def drawSpan (m : Mem) (h c : Nat) (span : Int × Int) : ColumnResult :=
  if span.2 < 0 then ⟨m, true, false⟩
  else if 399 < span.1 then ⟨m, false, true⟩
  else
    let top := (max 0 span.1).toNat
    let bottom := (min 399 span.2).toNat
    ⟨(List.range (bottom + 1 - top)).foldl (fun m k => m.hit h (gridKey c (top + k))) m, false, false⟩

/-- The codes of one channel that a column covers, or in DOTS style the first of them (R95, R96, R100). -/
def Cap.columnCodes (cap : Cap) (p : Pass) (f : Filed) (ch : Channel) : List Byte :=
  let n := if p.style = 0 then p.columnCount p.next else 1
  (List.range n).map fun k => cap.sample p.seg f ch (p.columnStart p.next + k)

/-- One channel of the column (R98 to R100): its map, its findings, and the own span kept for the next column. -/
def Pass.drawChannel (p : Pass) (cap : Cap) (f : Filed) (m : Mem) (ch : Channel) :
    ColumnResult × Option (Int × Int) :=
  let own := ownSpan (cap.columnCodes p f ch) (p.d.get ch) (p.p.get ch)
  if p.style = 0 then
    (drawSpan m p.h p.next (connect own (if p.next = 0 then none else p.span.get ch)), some own)
  else (drawSpan m p.h p.next own, none)

/-- The column that a pass applies next, for every channel of its drawn set (R102). -/
def Pass.drawColumn (p : Pass) (cap : Cap) (f : Filed) (maps : Quad Mem) : Pass × Quad Mem :=
  let r := Quad.of fun ch =>
    if p.drawn.get ch then p.drawChannel cap f (maps.get ch) ch else (⟨maps.get ch, false, false⟩, none)
  ({ p with next := p.next + 1, span := r.map Prod.snd
            above := Quad.union p.above (r.map fun x => x.1.above)
            below := Quad.union p.below (r.map fun x => x.1.below) },
   r.map fun x => x.1.map)

/-- DRAW_COLUMN: one column of the pass in flight; the pass ends after column 639 (R102, R103). -/
def execDrawColumn (s : State) : Result :=
  match s.rend.pass with
  | none => .next s
  | some p =>
    if s.cap.power ≠ .active then .next s
    else match s.cap.seg p.seg with
      | .complete f =>
        if s.cap.fits p.seg f.present f.q then
          let (p', maps) := p.drawColumn s.cap f s.rend.maps
          let s := s.setRend { s.rend with pass := some p', maps := maps }
          .next (if 640 ≤ p'.next then s.endPass p' else s)
        else .fault .outsideCaptureMemory
      | _ => .next s

end Sys2Proof.Machine
end

