-- ==== Sys2Proof/Machine/Reset.lean ====
section
/-! DEFINITION. FULL_RESET, the end of the start-up scan, and RESET_PART (R17, R24, R38, R57, R74, R91, R111, R135, R153,
R162, R175, R176, R186, R187, R191). -/

namespace Sys2Proof.Machine

/-! ## Full reset (R176, R191; log entry 33) -/

/-- The slot sector of an operation cut by a full reset (R176). A PROTECT is spoiled in every phase, its read-back among
them (DESIGN CHOICE, log entry 54). A cut in slot 0 follows the table too, so that one that leaves a valid sector leaves
start-up with its image, against the rule's last sentence (DESIGN CHOICE, log entry 60). -/
def State.cutSlot (s : State) (op : Op) (r : Running) (cut : CutPhase) : Sector :=
  match op.kind, cut with
  | .save, .readBack true | .autosave, .readBack true => .written (s.saveHeader op r) op.imageOf
  | .erase, .readBack _ => .blank
  | .recall, _ => s.store.device.sector op.slot
  | _, _ => .spoiled

/-- The store device as a full reset leaves it. -/
def State.cutDevice (s : State) (cut : CutPhase) : Device :=
  match s.store.queue, s.store.running with
  | op :: _, some r =>
    if op.kind = .calWrite then { s.store.device with cal := .spoiled }
    else s.store.device.putSector op.slot (s.cutSlot op r cut)
  | _, _ => s.store.device

/-- An encoder at full reset: its lines are pins and keep their levels. -/
def Encoder.afterReset (x : Encoder) : Encoder := ⟨x.a, x.b, startPos x.a x.b, none⟩

/-- FULL_RESET: every block takes its full-reset values and start-up begins (R191). The store device, the bytes of the
capture memory and the encoders' lines are outside the reset. -/
def execFullReset (cut : CutPhase) (s : State) : Result :=
  .next { State.reset with
    pending := s.pending
    clock := s.clock
    races := s.races
    cap := { Cap.reset with mem := s.cap.mem }
    panel := { Panel.reset with encs := tableMap Encoder.afterReset s.panel.encs }
    store := { Store.reset with device := s.cutDevice cut } }

/-! ## Start-up (R175, R186) -/

/-- The directory entry the scan gives a slot (R175): `flawed` when the sector read back without a matching check. -/
def scanEntry (slot : Nat) (x : Sector) (flawed : Bool) : Entry :=
  if flawed then Entry.bare .bad
  else match x with
    | .blank => Entry.bare .empty
    | .spoiled => Entry.bare .bad
    | .written h i =>
      let e := Entry.ofHeader h i
      if slot = 0 then { e with isProtected := false } else e

/-- The directory of a scan. -/
def Device.scan (d : Device) (flaws : BitVec 33) : Vector Entry 32 :=
  ⟨⟨(List.finRange 32).map fun k => scanEntry k (d.sector k) (flaws.getLsbD k)⟩, by simp⟩

/-- The calibration records the scan hands over, if any (R175). -/
def Device.scanCal (d : Device) (flaws : BitVec 33) : Option (Quad CalRecord) :=
  if flaws.getLsbD 32 then none
  else match d.cal with
    | .written 1 r => some r
    | _ => none

/-- The image of slot 0 that start-up applies, if any (R17, R175). -/
def Device.scanImage (d : Device) (flaws : BitVec 33) : Option Image :=
  if flaws.getLsbD 0 then none
  else match d.sector 0 with
    | .written _ i => if i.version = 1 then some i else none
    | .blank | .spoiled => none

/-- CHAN takes the records of the scan, or keeps those of the reset (R24, R27). -/
def State.takeRecords (s : State) (r : Option (Quad CalRecord)) : State :=
  match r with
  | some q => s.setChans { s.chans with unit := Quad.of fun ch => (s.chans.unit.get ch).scanned (q.get ch) }
  | none => s

/-- PANEL begins to scan the matrix, and its decoders take their positions (R136, R144). -/
def Panel.startScan (p : Panel) : Panel :=
  { p with scanning := true, encs := tableMap (fun x => { x with pos := startPos x.a x.b }) p.encs }

/-- How many slots a scan found BAD (R186). -/
def badSlots (dir : Vector Entry 32) : Nat := (dir.toList.filter fun e => e.state == .bad).length

/-- The start-up values of every block, before LINK queues READY (R17, R24, R38, R57, R91, R175). -/
def State.takeStartUp (s : State) (flaws : BitVec 33) : State :=
  let d := s.store.device
  let s := s.setStore { s.store with dir := d.scan flaws, scanning := false }
  let s := s.takeRecords (d.scanCal flaws)
  let s := match d.scanImage flaws with
    | some i => s.applyStartUp i
    | none => s
  let s := s.setCap (s.cap.partition s.sett.vals)
  Channel.all.foldl State.programFront s.recode.relimit

/-- START_UP_SCAN_END (R175, R186): READY is queued, then CHAN reads the overload conditions, in ascending channel number
(DESIGN CHOICE, log entry 45), DISP begins its power-up and PANEL begins to scan. -/
def execStartUpScanEnd (flaws : BitVec 33) (cond : BitVec 4) (s : State) : Result :=
  if !s.store.scanning then .next s
  else
    let d := s.store.device
    let s := s.takeStartUp flaws
    let s := s.setLink { s.link with started := true }
    let s := s.present (.ready (d.scanImage flaws).isSome (d.scanCal flaws).isSome (badSlots s.store.dir))
    let s := Channel.all.foldl (fun s ch => s.checkCondition cond ch) s
    let s := s.beginPowerUp .startUp
    .next (s.setPanel s.panel.startScan)

/-! ## Link reset (R187) -/

/-- LINK at a link reset, with the reply to RESET_PART queued (R187, R191). -/
def Link.linkReset (l : Link) (tag : Byte) : Link :=
  { l with table := [], replies := [replyFrame ReqKind.resetPart.code tag [Status.ok.code]], notices := []
           outBuf := none, mask := 0xFFF, errors := 0, lost := 0 }

/-- CHAN at a link reset (R38): the front ends take the defaults, their isolation following the kept latches. -/
def Chans.linkReset (c : Chans) : Chans :=
  { c with selfCal := none
           unit := Quad.of fun ch =>
             let u := c.unit.get ch
             { u with takeTarget := true, front := (Settings.defaults.chan.get ch).program u.latch } }

/-- TRIG at a link reset, before it computes its codes (R57); the ladder keeps its last code. -/
def Trig.linkReset (t : Trig) : Trig :=
  { Trig.reset with lc := t.lc, ladder := t.ladder, limited := t.limited, loS := t.loS, hiS := t.hiS }

/-- The readout at a link reset (R88, R91). -/
def Readout.linkReset : Readout → Readout
  | .closed => .closed
  | _ => .abandoned

/-- The memory power state at a link reset (R91). -/
def MemPower.linkReset : MemPower → MemPower
  | .active => .active
  | .retention | .waking => .waking

/-- CAP at a link reset (R91). -/
def Cap.linkReset (c : Cap) : Cap :=
  { c.partition Settings.defaults with readout := c.readout.linkReset, idle := none, power := c.power.linkReset }

/-- DISP at a link reset (R135). -/
def Disp.linkReset (d : Disp) : Disp :=
  { d with planeA := [], planeB := [], queue := [], sync := false, palette := defaultPalette
           idle := if d.power.isLit then some 0 else d.idle }

/-- PANEL at a link reset (R153). -/
def Panel.linkReset (p : Panel) : Panel :=
  { p with encs := tableMap (fun x => { x with run := none }) p.encs
           keyBind := Panel.reset.keyBind, encBind := Panel.reset.encBind, lamps := Panel.reset.lamps
           brightness := Panel.reset.brightness }

/-- STORE at a link reset (R176): an executing operation runs to its end and is not reported. -/
def Store.linkReset (st : Store) : Store :=
  { st with queue := if st.busy then st.queue.take 1 else []
            running := st.running.map fun r => { r with silent := true }
            autoTimer := none, autoEnable := true, autoHeld := none, calPending := false, scanning := false }

/-- The link reset (R187): every block takes its link-reset values, and the memory may then return to RETENTION (R91). -/
def State.linkReset (s : State) (tag : Byte) : State :=
  let t : State :=
    { s with link := s.link.linkReset tag, sett := Sett.reset, chans := s.chans.linkReset, trig := s.trig.linkReset
             acq := Acq.reset, cap := s.cap.linkReset, rend := Rend.reset, disp := s.disp.linkReset
             panel := s.panel.linkReset, auth := Auth.reset, store := s.store.linkReset }
  t.recode.relimit.examineMemory

/-- RESET_PART: outside start-up a frame with an empty body is taken at once (R180, R187). -/
def execResetPart (tag : Byte) (body : List Byte) (s : State) : Result :=
  if s.link.rx ≠ .ignoring ∧ s.link.started ∧ body = [] then .next (s.linkReset tag)
  else s.request .resetPart tag body fun s => .next (s.linkReset tag)

end Sys2Proof.Machine
end

