-- ==== Sys2Proof/Machine/SettingsTable.lean ====
section
/-! DEFINITION. SET, SET_BATCH and GET (R10 to R12). -/

namespace Sys2Proof.Machine

/-- The status of writes that may have been clamped. -/
def clampStatus (clamped : Bool) : Status := if clamped then .clamped else .ok

/-- SET (R10). -/
def execSet (tag : Byte) (body : List Byte) (cond : BitVec 4) (s : State) : Result :=
  s.request .set tag body fun s =>
    match Setting.ofId? (byteAt body 0).toNat with
    | none => .next (s.reply tag [Status.badValue.code, byteAt body 0])
    | some k =>
      let (s, clamped) := s.transact [(k, ofLeSigned (slice body 1 8))] .link cond
      .next (s.reply tag ((clampStatus clamped).code :: (s.sett.vals.entry k ++ [s.levelLimited])))

/-- SET_BATCH (R11). The index of a BAD_VALUE reply takes one byte (DESIGN CHOICE, log entry 42). -/
def execSetBatch (tag : Byte) (body : List Byte) (cond : BitVec 4) (s : State) : Result :=
  s.request .setBatch tag body fun s =>
    let ps := pairsOf (byteAt body 0).toNat (body.drop 1)
    match firstUnknown (ps.map Prod.fst) with
    | some i => .next (s.reply tag [Status.badValue.code, BitVec.ofNat 8 i])
    | none =>
      let ws := pairWrites ps
      let (s, clamped) := s.transact ws .link cond
      .next (s.reply tag ([(clampStatus clamped).code, byteAt body 0]
        ++ ws.flatMap (fun w => s.sett.vals.entry w.1) ++ [s.levelLimited]))

/-- GET (R12): an empty list reads all 46 settings. The index of a BAD_VALUE reply takes one byte (DESIGN CHOICE, log
entry 42). -/
def execGet (tag : Byte) (body : List Byte) (s : State) : Result :=
  s.request .get tag body fun s =>
    let ids := body.map BitVec.toNat
    match firstUnknown ids with
    | some i => .next (s.reply tag [Status.badValue.code, BitVec.ofNat 8 i])
    | none =>
      let ks := if body.isEmpty then Setting.all else knownSettings ids
      .next (s.reply tag ([Status.ok.code, BitVec.ofNat 8 ks.length] ++ ks.flatMap s.sett.vals.entry))

end Sys2Proof.Machine
end

