-- ==== Sys2Proof/Machine/Store.lean ====
section
/-! DEFINITION. The store requests and the ends of store operations (chapter 10). -/

namespace Sys2Proof.Machine

/-! ## Requests (R166, R171, R172) -/

/-- A link operation that passed its body checks: refused at once, or queued and answered at its completion (R166). -/
def State.takeLinkOp (s : State) (tag : Byte) (op : Op) : Result :=
  match s.takeStoreOp op with
  | (s, .ok) => .next s
  | (s, st) => .next (s.replyStatus tag st)

/-- SAVE (R166): the image is taken when it is queued. -/
def execSave (tag : Byte) (body : List Byte) (s : State) : Result :=
  s.request .save tag body fun s =>
    match saveArgs body with
    | none => .next (s.replyStatus tag .badValue)
    | some (slot, name) => s.takeLinkOp tag ⟨.save, .link, slot, tag, name, some s.image, false⟩

/-- RECALL (R166). -/
def execRecall (tag : Byte) (body : List Byte) (s : State) : Result :=
  s.request .recall tag body fun s =>
    match slotArg body with
    | none => .next (s.replyStatus tag .badValue)
    | some slot => s.takeLinkOp tag ⟨.recall, .link, slot, tag, [], none, false⟩

/-- ERASE (R166). -/
def execErase (tag : Byte) (body : List Byte) (s : State) : Result :=
  s.request .erase tag body fun s =>
    match slotArg body with
    | none => .next (s.replyStatus tag .badValue)
    | some slot => s.takeLinkOp tag ⟨.erase, .link, slot, tag, [], none, false⟩

/-- PROTECT (R166). -/
def execProtect (tag : Byte) (body : List Byte) (s : State) : Result :=
  s.request .protect tag body fun s =>
    match protectArgs body with
    | none => .next (s.replyStatus tag .badValue)
    | some (slot, on) => s.takeLinkOp tag ⟨.protect, .link, slot, tag, [], none, on⟩

/-- One entry of the LIST_SLOTS reply, 27 bytes (R171). -/
def Entry.listed (e : Entry) : List Byte :=
  [e.state.code, Byte.ofBool e.isProtected, (e.origin.map SaveOrigin.code).getD 0, Byte.ofBool e.savedAt.isSome]
    ++ leBytes 4 (e.savedAt.getD 0).toNat ++ leBytes 2 e.writeCount ++ [BitVec.ofNat 8 e.name.length]
    ++ (e.name ++ List.replicate 16 0).take 16

/-- The reply to LIST_SLOTS (R171). -/
def Store.listBody (st : Store) : List Byte :=
  [Status.ok.code, Byte.ofBool st.autoEnable, BitVec.ofNat 8 st.queue.length, Byte.ofBool st.busy]
    ++ st.dir.toList.flatMap Entry.listed

/-- LIST_SLOTS (R171). -/
def execListSlots (tag : Byte) (body : List Byte) (s : State) : Result :=
  s.request .listSlots tag body fun s => .next (s.reply tag s.store.listBody)

/-- SET_AUTOSAVE (R172). On leaves a timer that runs running (DESIGN CHOICE, log entry 55). -/
def execSetAutosave (tag : Byte) (body : List Byte) (s : State) : Result :=
  s.request .setAutosave tag body fun s =>
    match boolArg (byteAt body 0) with
    | none => .next (s.replyStatus tag .badValue)
    | some on =>
      let st := if on then { s.store with autoEnable := true }
        else { s.store with autoEnable := false, autoTimer := none, autoHeld := none }
      .next ((s.setStore st).reply tag [Status.ok.code, Byte.ofBool on])

/-! ## Completions (R167 to R170, R173) -/

/-- The executing operation, if it is of one of some kinds. -/
def Store.executing (st : Store) (kinds : List OpKind) : Option (Op × Running) :=
  match st.queue, st.running with
  | op :: _, some r => if kinds.contains op.kind then some (op, r) else none
  | _, _ => none

/-- SAVE_COMPLETE: the erase, program and verify of a SAVE or AUTOSAVE end (R167). -/
def execSaveComplete (good : Bool) (s : State) : Result :=
  match s.store.executing [.save, .autosave] with
  | none => .next s
  | some (op, r) =>
    .next ((s.wroteSlot op.slot good (s.saveHeader op r) op.imageOf).finishOp op r.silent (writeStatus good))

/-- What a RECALL makes of its sector (R168): the entry becomes BAD, the format is unknown, or an image is applied. -/
def State.recallSector (s : State) (op : Op) (good : Bool) : Option Image × Bool :=
  match good, s.store.device.sector op.slot with
  | true, .written _ i => (if i.version = 1 then some i else none, true)
  | _, _ => (none, false)

/-- RECALL_COMPLETE (R168); after a link reset the image is not applied (R176). -/
def execRecallComplete (good : Bool) (cond : BitVec 4) (s : State) : Result :=
  match s.store.executing [.recall] with
  | none => .next s
  | some (op, r) =>
    match s.recallSector op good with
    | (_, false) =>
      .next ((s.setStore (s.store.putEntry op.slot (Entry.bare .bad))).finishOp op r.silent .checkFailed)
    | (none, true) => .next (s.finishOp op r.silent .checkFailed)
    | (some i, true) =>
      if r.silent then .next (s.finishOp op true .ok)
      else
        let (s, clamped) := s.transact i.writes .recall cond
        .next (s.finishOp op false (if clamped then .clamped else .ok))

/-- ERASE_COMPLETE (R169). What an erase that did not leave the sector blank leaves there is not said; the model spoils it
(DESIGN CHOICE, log entry 62). -/
def execEraseComplete (blank : Bool) (s : State) : Result :=
  match s.store.executing [.erase] with
  | none => .next s
  | some (op, r) =>
    let s := if blank then s.putSlot op.slot .blank (Entry.bare .empty)
      else s.putSlot op.slot .spoiled (Entry.bare .bad)
    .next (s.finishOp op r.silent (writeStatus blank))

/-- The header and image that a PROTECT rewrites: those of its sector, with the new protected value (R170). -/
def Sector.rewritten (x : Sector) (on : Bool) : Option (SlotHeader × Image) :=
  match x with
  | .written h i => some ({ h with isProtected := on }, i)
  | .blank | .spoiled => none

/-- PROTECT_COMPLETE (R170). -/
def execProtectComplete (good : Bool) (s : State) : Result :=
  match s.store.executing [.protect] with
  | none => .next s
  | some (op, r) =>
    match (s.store.device.sector op.slot).rewritten op.on with
    | some (h, i) => .next ((s.wroteSlot op.slot good h i).finishOp op r.silent (writeStatus good))
    | none => .next ((s.putSlot op.slot .spoiled (Entry.bare .bad)).finishOp op r.silent .deviceFault)

/-- CAL_WRITE_COMPLETE: the sector holds the records taken when the write began; a write that fails leaves it unreadable
(R173). -/
def execCalWriteComplete (good : Bool) (s : State) : Result :=
  match s.store.executing [.calWrite] with
  | none => .next s
  | some (op, r) =>
    let cal : CalSector := if good then .written 1 r.records else .spoiled
    let s := s.setStore { s.store with device := { s.store.device with cal := cal } }
    .next (s.finishOp op r.silent (writeStatus good))

/-- AUTOSAVE_TIMER_EXPIRY (R172). -/
def execAutosaveTimerExpiry (s : State) : Result :=
  if s.store.autoTimer.isNone then .next s else .next s.autosaveDue

end Sys2Proof.Machine
end

