-- ==== Sys2Proof/Machine/Trigger.lean ====
section
/-! DEFINITION. FORCE_TRIGGER, the sample stream, the edges it gives, and the two trigger timers (chapter 3). -/

namespace Sys2Proof.Machine

/-- FORCE_TRIGGER (R53). -/
def execForceTrigger (tag : Byte) (body : List Byte) (s : State) : Result :=
  s.request .forceTrigger tag body fun s => answerAct tag s.takeForce

/-! ## Edges, widths and candidates (R44 to R49) -/

/-- A candidate trigger is accepted in READY and lost otherwise (R49). -/
def State.candidate (s : State) : State := if s.acq.state = .ready then s.acceptTrigger .no else s

/-- Whether TRIG_SLOPE uses a rising edge, or selects positive pulses; or a falling edge, or negative pulses (R44, R46). -/
def slopeSelects (slope : Int) (rising : Bool) : Bool := slope == 2 || (slope == if rising then 0 else 1)

/-- The judgement of a pulse of width `w` (R47, R48). -/
def widthJudged (cond loS hiS : Int) (w : Nat) : Bool :=
  if cond = 0 then decide (loS < w)
  else if cond = 1 then decide ((w : Int) < hiS)
  else decide (loS ≤ w) && decide ((w : Int) ≤ max loS hiS)

/-- An edge under EDGE (R44): two edges at one sample position give one candidate. -/
def State.edgeTrigger (s : State) (rising : Bool) : State :=
  if slopeSelects s.sett.vals.trigSlope rising ∧ !s.trig.candHere then
    (s.setTrig { s.trig with candHere := true }).candidate
  else s

/-- An edge under WIDTH (R46, R48). -/
def State.edgeWidth (s : State) (rising : Bool) : State :=
  let v := s.sett.vals
  match s.trig.width with
  | none => if slopeSelects v.trigSlope rising then s.setTrig { s.trig with width := some ⟨rising, 0⟩ } else s
  | some p =>
    if p.positive = rising then s
    else
      let next := if v.trigSlope = 2 then some ⟨rising, 0⟩ else none
      let s := s.setTrig { s.trig with width := next }
      if widthJudged v.trigWidthCond s.trig.loS s.trig.hiS p.count then s.candidate else s

/-- TRIG takes one edge. -/
def State.takeEdge (s : State) (rising : Bool) : State :=
  if s.sett.vals.trigType = 0 then s.edgeTrigger rising else s.edgeWidth rising

/-! ## Detectors (R43) -/

/-- What one detector does with a sample: whether it is ARMED after it, and whether it fires. -/
def detector (armed arms fires : Bool) : Bool × Bool := if armed then (!fires, fires) else (arms, false)

/-- Both detectors take one sample of the source (Table 3-2): the detectors after it, and which fired. -/
def Trig.detect (t : Trig) (h : Int) (x : Byte) : Trig × Bool × Bool :=
  let v : Int := x.toNat
  let r := detector t.rising (decide (v ≤ t.lc - h)) (decide (t.lc ≤ v))
  let f := detector t.falling (decide (t.lc + h ≤ v)) (decide (v ≤ t.lc))
  ({ t with rising := r.1, falling := f.1 }, r.2, f.2)

/-- The stream goes on by one sample position: the index rises, and the width count with it (R39, R46). -/
def Trig.nextSample (t : Trig) : Trig :=
  { t with index := t.index + 1, candHere := false
           width := t.width.map fun p => { p with count := satSucc (2 ^ 32 - 1) p.count } }

/-- TRIG takes the source's sample (R39, R43). An OFF or PROTECTED source is not presented. -/
def State.triggerSample (s : State) (codes : Quad Byte) : State :=
  let s := s.setTrig s.trig.nextSample
  match s.sett.vals.source with
  | none => s
  | some ch =>
    if s.chanState ch ≠ .on then s
    else
      let (t, rose, fell) := s.trig.detect s.sett.vals.trigHyst (codes.get ch)
      let s := s.setTrig t
      let s := if rose then s.takeEdge true else s
      let s := if fell then s.takeEdge false else s
      s.setTrig { s.trig with candHere := false }

/-! ## Samples into the segment in flight (R21, R79) -/

/-- The codes that reach CAP and TRIG: 128 for an enabled channel whose latch is set (R21). -/
def State.sampleCodes (s : State) (codes : Quad Byte) : Quad Byte :=
  Quad.of fun ch =>
    if (s.chans.unit.get ch).latch ∧ (s.sett.vals.chan.get ch).enable = 1 then 128 else codes.get ch

/-- Write one sample position of every present channel at a place of the record (R79). -/
def Cap.writeSample (c : Cap) (i : Nat) (present : ChSet) (codes : Quad Byte) (place : Nat) : Cap :=
  let put (m : Mem) (ch : Channel) : Mem :=
    if present.get ch then m.write (c.addr i present ch place) (codes.get ch) else m
  { c with mem := Channel.all.foldl put c.mem }

/-- CAP places one sample position: the trigger sample at index Q, a later one after it, an earlier one in the circle
(R79, R65; log entry 24). With Q = L - 1 the trigger sample completes the fill (R65). -/
def State.placeSample (s : State) (i : Nat) (present : ChSet) (codes : Quad Byte) : State :=
  let c := s.cap
  let q := s.acq.q
  if c.awaiting then
    let s := s.setAcq { s.acq with trigTime := s.acq.base }
    let s := s.setCap { c.writeSample i present codes q with awaiting := false, post := 0 }
    if s.acq.state = .fillingPost ∧ c.len ≤ q + 1 then s.completeSegment i else s
  else if s.acq.state = .fillingPost then
    if q + 1 + c.post < c.len then
      s.setCap { c.writeSample i present codes (q + 1 + c.post) with post := c.post + 1 }
    else s
  else if q = 0 then s
  else s.setCap { c.writeSample i present codes (c.pre % q) with pre := c.pre + 1 }

/-- DIGITIZER_SAMPLE: one sample position arrives in a filling state (R39, R43, R79). -/
def execDigitizerSample (codes : Quad Byte) (s : State) : Result :=
  match s.acq.state.isFilling, s.acq.inFlight with
  | true, some i =>
    let present := (s.cap.seg i).fillSets.1
    if s.cap.fits i present s.acq.q then
      let codes := s.sampleCodes codes
      .next ((s.triggerSample codes).placeSample i present codes)
    else .fault .outsideCaptureMemory
  | _, _ => .next s

/-- EXT_TRANSITION: a transition of the external comparator, at the next sample position (R45; log entry 11). -/
def execExtTransition (rising : Bool) (s : State) : Result :=
  if s.acq.state.isFilling ∧ s.sett.vals.source = none then .next (s.takeEdge rising) else .next s

/-! ## Timers (R50 to R52) -/

/-- HOLDOFF_EXPIRY: ACQ waiting in FILLING_PRE with its depth reached enters READY (R50, R64). -/
def execHoldoffExpiry (s : State) : Result :=
  if s.trig.holdoff.isNone then .next s
  else
    let s := s.setTrig { s.trig with holdoff := none }
    .next (if s.acq.state = .fillingPre ∧ s.acq.depth then s.enterReady else s)

/-- AUTO_TIMER_EXPIRY: a forced trigger is accepted in READY (R52). -/
def execAutoTimerExpiry (s : State) : Result :=
  if s.trig.auto.isNone then .next s
  else
    let s := s.setTrig { s.trig with auto := none }
    .next (if s.acq.state = .ready then s.acceptTrigger .byAuto else s)

end Sys2Proof.Machine
end

