-- ==== Sys2Proof/Machine/Dispatch.lean ====
section
/-! DEFINITION. What each command does: one arm per constructor, one call of its meaning. -/

namespace Sys2Proof.Machine

def exec (i : Instr) (s : State) : Host.Outcome State Fault Refusal :=
  match i with
  | .fullReset cut => Sys2Proof.Machine.execFullReset cut s
  | .startUpScanEnd flaws cond => Sys2Proof.Machine.execStartUpScanEnd flaws cond s
  | .chipSelectRelease residue => Sys2Proof.Machine.execChipSelectRelease residue s
  | .inboundFrameDiscarded frame => Sys2Proof.Machine.execInboundFrameDiscarded frame s
  | .noRoom kind tag body => Sys2Proof.Machine.execNoRoom kind tag body s
  | .unknownKind kind tag body => Sys2Proof.Machine.execUnknownKind kind tag body s
  | .outboundFrameStart => Sys2Proof.Machine.execOutboundFrameStart s
  | .identify tag body => Sys2Proof.Machine.execIdentify tag body s
  | .echo tag body => Sys2Proof.Machine.execEcho tag body s
  | .getStatus tag body => Sys2Proof.Machine.execGetStatus tag body s
  | .resetPart tag body => Sys2Proof.Machine.execResetPart tag body s
  | .setClock tag body => Sys2Proof.Machine.execSetClock tag body s
  | .setNoticeMask tag body => Sys2Proof.Machine.execSetNoticeMask tag body s
  | .set tag body cond => Sys2Proof.Machine.execSet tag body cond s
  | .setBatch tag body cond => Sys2Proof.Machine.execSetBatch tag body cond s
  | .get tag body => Sys2Proof.Machine.execGet tag body s
  | .run tag body => Sys2Proof.Machine.execRun tag body s
  | .single tag body => Sys2Proof.Machine.execSingle tag body s
  | .stop tag body => Sys2Proof.Machine.execStop tag body s
  | .forceTrigger tag body => Sys2Proof.Machine.execForceTrigger tag body s
  | .selfCal tag body => Sys2Proof.Machine.execSelfCal tag body s
  | .getCal tag body => Sys2Proof.Machine.execGetCal tag body s
  | .restoreChannel tag body cond => Sys2Proof.Machine.execRestoreChannel tag body cond s
  | .getHistory tag body => Sys2Proof.Machine.execGetHistory tag body s
  | .openReadout tag body => Sys2Proof.Machine.execOpenReadout tag body s
  | .readChunk tag body => Sys2Proof.Machine.execReadChunk tag body s
  | .closeReadout tag body => Sys2Proof.Machine.execCloseReadout tag body s
  | .readoutIdleTimeout => Sys2Proof.Machine.execReadoutIdleTimeout s
  | .memoryWakeEnd => Sys2Proof.Machine.execMemoryWakeEnd s
  | .digitizerSample codes => Sys2Proof.Machine.execDigitizerSample codes s
  | .extTransition rising => Sys2Proof.Machine.execExtTransition rising s
  | .preTriggerDepthReached => Sys2Proof.Machine.execPreTriggerDepthReached s
  | .postTriggerFillComplete => Sys2Proof.Machine.execPostTriggerFillComplete s
  | .holdoffExpiry => Sys2Proof.Machine.execHoldoffExpiry s
  | .autoTimerExpiry => Sys2Proof.Machine.execAutoTimerExpiry s
  | .overloadReport ch => Sys2Proof.Machine.execOverloadReport ch s
  | .temperatureSample value => Sys2Proof.Machine.execTemperatureSample value s
  | .calTurnEnd mean16 cond => Sys2Proof.Machine.execCalTurnEnd mean16 cond s
  | .drawColumn => Sys2Proof.Machine.execDrawColumn s
  | .clearPersist tag body => Sys2Proof.Machine.execClearPersist tag body s
  | .frameEvent => Sys2Proof.Machine.execFrameEvent s
  | .fillRect tag body => Sys2Proof.Machine.execFillRect tag body s
  | .putText tag body => Sys2Proof.Machine.execPutText tag body s
  | .putPixels tag body => Sys2Proof.Machine.execPutPixels tag body s
  | .endBatch tag body => Sys2Proof.Machine.execEndBatch tag body s
  | .planeSyncComplete => Sys2Proof.Machine.execPlaneSyncComplete s
  | .setPalette tag body => Sys2Proof.Machine.execSetPalette tag body s
  | .setDisplayPower tag body => Sys2Proof.Machine.execSetDisplayPower tag body s
  | .setDisplayTimeouts tag body => Sys2Proof.Machine.execSetDisplayTimeouts tag body s
  | .panelScanningBegins => Sys2Proof.Machine.execPanelScanningBegins s
  | .backlightOn => Sys2Proof.Machine.execBacklightOn s
  | .panelScanningStops => Sys2Proof.Machine.execPanelScanningStops s
  | .panelLogicDisabled => Sys2Proof.Machine.execPanelLogicDisabled s
  | .dimExpiry => Sys2Proof.Machine.execDimExpiry s
  | .blankExpiry => Sys2Proof.Machine.execBlankExpiry s
  | .matrixScan sensed cond => Sys2Proof.Machine.execMatrixScan sensed cond s
  | .repeatTimerDue key => Sys2Proof.Machine.execRepeatTimerDue key s
  | .longTimerDue key => Sys2Proof.Machine.execLongTimerDue key s
  | .encoderLineChange enc lines between => Sys2Proof.Machine.execEncoderLineChange enc lines between s
  | .setKeyBinding tag body => Sys2Proof.Machine.execSetKeyBinding tag body s
  | .setEncoderBinding tag body => Sys2Proof.Machine.execSetEncoderBinding tag body s
  | .setLed tag body => Sys2Proof.Machine.execSetLed tag body s
  | .getPanel tag body => Sys2Proof.Machine.execGetPanel tag body s
  | .setAuthority tag body => Sys2Proof.Machine.execSetAuthority tag body s
  | .answerLocal tag body => Sys2Proof.Machine.execAnswerLocal tag body s
  | .requestTimerExpiry => Sys2Proof.Machine.execRequestTimerExpiry s
  | .deniedTimerExpiry => Sys2Proof.Machine.execDeniedTimerExpiry s
  | .save tag body => Sys2Proof.Machine.execSave tag body s
  | .recall tag body => Sys2Proof.Machine.execRecall tag body s
  | .erase tag body => Sys2Proof.Machine.execErase tag body s
  | .protect tag body => Sys2Proof.Machine.execProtect tag body s
  | .listSlots tag body => Sys2Proof.Machine.execListSlots tag body s
  | .setAutosave tag body => Sys2Proof.Machine.execSetAutosave tag body s
  | .saveComplete good => Sys2Proof.Machine.execSaveComplete good s
  | .recallComplete good cond => Sys2Proof.Machine.execRecallComplete good cond s
  | .eraseComplete blank => Sys2Proof.Machine.execEraseComplete blank s
  | .protectComplete good => Sys2Proof.Machine.execProtectComplete good s
  | .calWriteComplete good => Sys2Proof.Machine.execCalWriteComplete good s
  | .autosaveTimerExpiry => Sys2Proof.Machine.execAutosaveTimerExpiry s
  | .chipSelectAssert => Sys2Proof.Machine.execChipSelectAssert s
  | .outboundFrameEnd => Sys2Proof.Machine.execOutboundFrameEnd s

end Sys2Proof.Machine
end

