-- ==== Sys2Proof/Machine/Tick.lean ====
section
/-! DEFINITION. One microsecond of the part's own time: what its running timers, counters and clocks do (log entry 6). -/

namespace Sys2Proof.Machine

/-- The millisecond counter of PANEL (R138), with its prescaler. -/
def Panel.tickMs (p : Panel) : Panel :=
  if p.msUs + 1 < 1000 then { p with msUs := p.msUs + 1 } else { p with msUs := 0, ms := p.ms + 1 }

/-- The timers of a key's open hold (R138). -/
def Key.tick (k : Key) : Key :=
  { k with hold := k.hold.map fun h =>
      { h with repeatTimer := h.repeatTimer.tick, longTimer := h.longTimer.map Timer.tick } }

/-- The time-of-day counter, once set (R190), with its prescaler. -/
def Link.tickTod (l : Link) : Link :=
  if !l.todSet then l
  else if l.todUs + 1 < 1000000 then { l with todUs := l.todUs + 1 }
  else { l with todUs := 0, tod := l.tod + 1 }

/-- The run time base counts while ACQ is running (R60). -/
def Acq.tick (a : Acq) : Acq := if a.state.isRunning then { a with base := a.base + 1 } else a

/-- The holdoff timer and the auto timer (R50, R51). -/
def Trig.tick (t : Trig) : Trig := { t with holdoff := t.holdoff.map Timer.tick, auto := t.auto.map Timer.tick }

/-- The request timer and the denied timer (R156, R157). -/
def Auth.tick (a : Auth) : Auth := { a with request := a.request.map Timer.tick, denied := a.denied.map Timer.tick }

/-- One microsecond passes. -/
def State.tick (s : State) : State :=
  let p := s.panel.tickMs
  { s with clock := s.clock + 1
           link := s.link.tickTod
           trig := s.trig.tick
           acq := s.acq.tick
           cap := { s.cap with idle := s.cap.idle.map Timer.tick }
           disp := { s.disp with idle := s.disp.idle.map (· + 1) }
           panel := { p with keys := tableMap Key.tick p.keys }
           auth := s.auth.tick
           store := { s.store with autoTimer := s.store.autoTimer.map Timer.tick } }

end Sys2Proof.Machine
end

