-- ==== Sys2Proof/Safety.lean ====
section
/-! DEFINITION. What counts as a safe run, the invariants of the part, and the words that claims are stated in. -/

namespace Sys2Proof.Machine

/-- A safe outcome: the part goes on. -/
def isNext : Result → Bool
  | .next _ => true
  | .fault _ => false
  | .refused _ => false

/-! ## Requests -/

/-- The command that brings a request of a kind to the part. -/
def ReqKind.command (k : ReqKind) (tag : Byte) (body : List Byte) (cond : BitVec 4) : Instr :=
  match k with
  | .identify => .identify tag body
  | .echo => .echo tag body
  | .getStatus => .getStatus tag body
  | .resetPart => .resetPart tag body
  | .setClock => .setClock tag body
  | .setNoticeMask => .setNoticeMask tag body
  | .set => .set tag body cond
  | .setBatch => .setBatch tag body cond
  | .get => .get tag body
  | .run => .run tag body
  | .single => .single tag body
  | .stop => .stop tag body
  | .forceTrigger => .forceTrigger tag body
  | .selfCal => .selfCal tag body
  | .getCal => .getCal tag body
  | .restoreChannel => .restoreChannel tag body cond
  | .getHistory => .getHistory tag body
  | .openReadout => .openReadout tag body
  | .readChunk => .readChunk tag body
  | .closeReadout => .closeReadout tag body
  | .clearPersist => .clearPersist tag body
  | .fillRect => .fillRect tag body
  | .putText => .putText tag body
  | .putPixels => .putPixels tag body
  | .endBatch => .endBatch tag body
  | .setPalette => .setPalette tag body
  | .setDisplayPower => .setDisplayPower tag body
  | .setDisplayTimeouts => .setDisplayTimeouts tag body
  | .setKeyBinding => .setKeyBinding tag body
  | .setEncoderBinding => .setEncoderBinding tag body
  | .setLed => .setLed tag body
  | .getPanel => .getPanel tag body
  | .setAuthority => .setAuthority tag body
  | .answerLocal => .answerLocal tag body
  | .save => .save tag body
  | .recall => .recall tag body
  | .erase => .erase tag body
  | .protect => .protect tag body
  | .listSlots => .listSlots tag body
  | .setAutosave => .setAutosave tag body

/-- LINK accepts a request and hands it to its owner: the receiver assembles frames, fewer than 16 places are used
(R180) and no check of R181 answers it. -/
def State.accepts (s : State) (k : ReqKind) (tag : Byte) (body : List Byte) : Prop :=
  s.link.rx = .awaitingSync ∧ s.link.used < 16 ∧ s.link.check k tag body = none

/-- The state in which a reply with this body has been queued, and nothing else has changed. -/
def State.answered (s : State) (k : ReqKind) (tag : Byte) (body : List Byte) : State :=
  s.setLink (s.link.answer k.code tag body)

/-- The state in which the request stands in the pending-request table, its reply being deferred. -/
def State.entered (s : State) (k : ReqKind) (tag : Byte) : State :=
  s.setLink { s.link with table := s.link.table ++ [⟨tag, k⟩] }

/-- What a link error does (R178): the count rises, stopping at 65535, a LINK_ERROR entry with the count and the cause
stands in the notice queue unless its kind is masked, and no other block changes. -/
def linkErrorOf (s t : State) (cause : LinkCause) : Prop :=
  t = s.setLink t.link ∧ t.link.table = s.link.table ∧ t.link.replies = s.link.replies ∧ t.link.mask = s.link.mask
    ∧ t.link.errors = (if s.link.errors < 65535 then s.link.errors + 1 else s.link.errors)
    ∧ (s.link.mask.getLsbD 10 = true → ∃ n, Notice.linkError t.link.errors n cause ∈ t.link.notices)

/-! ## Triggers -/

/-- The state after a trigger is accepted in READY (R49, R65): the auto timer stops, the holdoff timer starts, the time
base is recorded, and the trigger sample is the next to be placed. -/
def State.triggered (s : State) (forced : Forced) : State :=
  { s with
    trig := { s.trig with auto := none, lastForced := forced
                          holdoff := if s.sett.vals.trigHoldoff ≤ 0 then none
                            else some ⟨s.sett.vals.trigHoldoff.toNat, 0⟩ }
    acq := { s.acq with state := .fillingPost, trigTime := s.acq.base, forced := decide (forced ≠ .no) }
    cap := { s.cap with awaiting := true, post := 0, oldest := if s.acq.q = 0 then 0 else s.cap.pre % s.acq.q } }

/-- ACQ with a segment just given and its pre-trigger depth `q` fixed, by TRIG's holdoff timer and pending force (R54,
R63, R64): FILLING_PRE; with Q = 0 the depth is reached at the entry, and with holdoff expired ACQ is READY at once, or
already triggered by the pending force. -/
def Acq.filling (a : Acq) (t : Trig) : Acq :=
  if a.q ≠ 0 then { a with state := .fillingPre, depth := false }
  else if t.holdoff ≠ none then { a with state := .fillingPre, depth := true }
  else if t.force = true then { a with state := .fillingPost, depth := true, trigTime := a.base, forced := true }
  else { a with state := .ready, depth := true }

/-! ## Writes to the settings table -/

/-- A setting brought back into its range as the range stands (R5). -/
def Settings.reclamped (v : Settings) (k : Setting) : Settings := v.put k (clampInt (v.get k) (v.range k).1 (v.range k).2)

/-- The table after one write and the re-clamps it causes (R3 to R5): the clamped value is stored if it differs. -/
def Settings.written (v : Settings) (k : Setting) (x : Int) : Settings :=
  let e := clampInt x (v.range k).1 (v.range k).2
  if e = v.get k then v
  else match k with
    | .scale ch => (v.put k e).reclamped (.offset ch)
    | .acqLength => ((v.put k e).reclamped .viewSpan).reclamped .viewStart
    | .viewSpan => (v.put k e).reclamped .viewStart
    | _ => v.put k e

/-- The table after writes in turn. -/
def Settings.writtenAll : Settings → List (Setting × Int) → Settings
  | v, [] => v
  | v, (k, x) :: r => (v.written k x).writtenAll r

/-- Whether one of some writes in turn proposes a value outside its range as the range then stands (R4). -/
def Settings.clampsIn : Settings → List (Setting × Int) → Bool
  | _, [] => false
  | v, (k, x) :: r => decide (x < (v.range k).1 ∨ (v.range k).2 < x) || (v.written k x).clampsIn r

/-- Whether one of some writes in turn changes a setting of class RESTART: ids 1 to 35 and 58 (R3, R6). -/
def Settings.restartsIn : Settings → List (Setting × Int) → Bool
  | _, [] => false
  | v, (k, x) :: r =>
    (decide (k.id ≤ 35 ∨ k.id = 58) && decide ((v.written k x).get k ≠ v.get k)) || (v.written k x).restartsIn r

/-! ## Invariants -/

/-- Until the scan ends start-up runs and no self-calibration does (R175, R181, R186). -/
def State.startUpOk (s : State) : Bool := (s.store.scanning == !s.link.started) && (s.link.started || s.chans.selfCal.isNone)

/-- The operations of the store queue that will be answered or reported at their completion (R176). -/
def Store.speaking (st : Store) : List Op :=
  match st.running with
  | some r => if r.silent then st.queue.tail else st.queue
  | none => st.queue

/-- The tags of the deferred replies that the owners hold: those of a readout that waits for the memory, of a
self-calibration, of the END_BATCHes in the overlay queue, and of the link operations in the store queue (R84, R85, R30,
R123, R165). -/
def State.owed (s : State) : List Byte :=
  (match s.cap.readout with
    | .opening _ tag _ waiting => tag :: waiting
    | .closed | .opened _ | .abandoned => [])
  ++ (match s.chans.selfCal with
    | some c => [c.tag]
    | none => [])
  ++ s.disp.queue.filterMap (fun c => match c with
    | .endBatch tag => some tag
    | .fillRect .. | .putText .. | .putPixels .. => none)
  ++ (s.store.speaking.filter fun op => op.origin == .link).map Op.tag

/-- Whether no tag stands twice in a list. -/
def tagsDistinct : List Byte → Bool
  | [] => true
  | t :: r => !r.contains t && tagsDistinct r

/-- The tags of the pending requests differ, and every deferred reply that an owner holds is owed to a pending request
of its own (R180, R181). -/
def State.owedOk (s : State) : Bool :=
  tagsDistinct (s.link.table.map PendingReq.tag) && tagsDistinct s.owed
    && s.owed.all fun t => s.link.table.any fun p => p.tag == t


/-- Every setting lies within its range as the range stands (R1). -/
def Settings.inRange (v : Settings) : Bool :=
  Setting.all.all fun k => decide ((v.range k).1 ≤ v.get k) && decide (v.get k ≤ (v.range k).2)

/-- At most 8 requests are pending, and the replies queued and owed take at most 16 places (R180). -/
def Link.placesOk (l : Link) : Bool := decide (l.table.length ≤ 8) && decide (l.used ≤ 16)

/-- No two coalescing notices of one subject stand in a list (R183). -/
def noticesDistinct : List Notice → Bool
  | [] => true
  | n :: r => r.all (fun m => !n.sameSubject m) && noticesDistinct r

/-- At most 10 shared places of the notice queue are in use, and at most one entry stands for each coalescing subject
(R183). -/
def Link.noticesOk (l : Link) : Bool := decide (l.sharedUsed ≤ 10) && noticesDistinct l.notices

/-- TRIG's codes are those of the values standing: the comparator code of a channel source or the ladder code of EXT, with
the level-limited flag, and the two width limits (R40 to R42, R47). -/
def State.codesStand (s : State) : Bool :=
  let v := s.sett.vals
  (match v.source with
    | some ch =>
      let raw := 128 - (s.chans.unit.get ch).d
        + roundAway ((v.trigLevel + (v.chan.get ch).offset) * 32) (v.scaleMv ch * 1000)
      let lc := clampInt raw v.trigHyst (255 - v.trigHyst)
      s.trig.lc == lc && s.trig.limited == decide (raw ≠ lc)
    | none =>
      let raw := roundAway ((v.trigLevel + 5000000) * 255) 10000000
      s.trig.ladder == clampInt raw 0 255 && s.trig.limited == decide (raw < 0 ∨ 255 < raw))
  && s.trig.loS == max 1 (roundAway v.trigWidthLo v.intervalNs)
  && s.trig.hiS == max 1 (roundAway v.trigWidthHi v.intervalNs)

/-- From the end of start-up on TRIG's codes are those of the values standing (R40 to R42, R47). -/
def State.codesOk (s : State) : Bool := !s.link.started || s.codesStand

/-- The byte memories have their canonical form. -/
def State.memoriesOk (s : State) : Bool :=
  s.cap.mem.wf && s.rend.maps.c1.wf && s.rend.maps.c2.wf && s.rend.maps.c3.wf && s.rend.maps.c4.wf
    && s.disp.planeA.wf && s.disp.planeB.wf

/-- Every channel's applied correction and drift target, and the error its record holds, lie within -64..63 (R26, R27). -/
def ChanUnit.driftOk (u : ChanUnit) : Bool :=
  let ok (x : Int) : Bool := decide (-64 ≤ x) && decide (x ≤ 63)
  ok u.d && ok u.t && (!u.record.valid || ok u.record.calOffset)

def Chans.driftOk (c : Chans) : Bool := Channel.all.all fun ch => (c.unit.get ch).driftOk

end Sys2Proof.Machine
end

