-- ==== Sys2Proof/Certificates/Slice0/Obligations.lean ====
section
/-! DEFINITION. The statements asked of the provers, from the numbered rules of spec/. Where a statement says that one
block's part of the state is set, every other part is unchanged: `s.setX x` changes block X alone, and
`s.answered k tag body` only appends a reply to LINK's reply queue. -/

open Sys2Proof Sys2Proof.Machine

/-! ## The step -/

/-- A step takes the command at the front of the queue and does it on the state with the queue's rest. -/
def Obligations.StepTakesFront : Prop :=
  ∀ (c : Instr) (s : State) (rest : List Instr), s.pending = c :: rest → step s = exec c (s.setPending rest)

/-- The model's choice (log entry 6): with no command waiting a step is one microsecond, in which the running timers
and counters go on and nothing else changes. A timer stays at its length; PANEL's counter rises after 1,000 µs and
wraps; the time of day, once set, rises after 1,000,000 µs and wraps (R138, R190). -/
def Obligations.IdleIsOneMicrosecond : Prop :=
  ∀ s : State, s.pending = [] →
    let on (x : Timer) : Timer := ⟨x.length, if x.elapsed < x.length then x.elapsed + 1 else x.elapsed⟩
    ∃ t, step s = .next t ∧ t.pending = [] ∧ t.clock = s.clock + 1 ∧ t.races = s.races
    ∧ t.acq = { s.acq with base := if s.acq.state.isRunning then s.acq.base + 1 else s.acq.base }
    ∧ t.sett = s.sett ∧ t.chans = s.chans ∧ t.rend = s.rend
    ∧ t.trig = { s.trig with holdoff := s.trig.holdoff.map on, auto := s.trig.auto.map on }
    ∧ t.cap = { s.cap with idle := s.cap.idle.map on }
    ∧ t.disp = { s.disp with idle := s.disp.idle.map (· + 1) }
    ∧ t.store = { s.store with autoTimer := s.store.autoTimer.map on }
    ∧ t.auth = { s.auth with request := s.auth.request.map on, denied := s.auth.denied.map on }
    ∧ (s.link.todSet = false → t.link = s.link)
    ∧ (s.link.todSet = true → t.link = if s.link.todUs < 999999 then { s.link with todUs := s.link.todUs + 1 }
        else { s.link with todUs := 0, tod := s.link.tod + 1 })
    ∧ t.panel = { s.panel with
        keys := t.panel.keys
        msUs := if s.panel.msUs < 999 then s.panel.msUs + 1 else 0
        ms := if s.panel.msUs < 999 then s.panel.ms else s.panel.ms + 1 }
    ∧ (∀ k, t.panel.key k = { s.panel.key k with
        hold := (s.panel.key k).hold.map fun h =>
          { h with repeatTimer := on h.repeatTimer, longTimer := h.longTimer.map on } })

/-- The model's choice (log entry 31: a record that would not lie within the capture memory faults): only
DIGITIZER_SAMPLE, READ_CHUNK, MEMORY_WAKE_END and DRAW_COLUMN can fault; every other command answers a next state from
every state, whatever its operands. -/
def Obligations.OnlyMemoryCommandsCanFault : Prop :=
  ∀ (c : Instr) (s : State),
    (∀ codes, c ≠ .digitizerSample codes) → (∀ tag body, c ≠ .readChunk tag body) → c ≠ .memoryWakeEnd →
    c ≠ .drawColumn → ∃ t, exec c s = .next t

/-! ## Requests that read (LINK, and one of every block) -/

/-- R188. -/
def Obligations.IdentifyAndEcho : Prop :=
  ∀ (s : State) (tag : Byte) (body : List Byte),
    (s.accepts .identify tag [] → exec (.identify tag []) s = .next (s.answered .identify tag
      [0, 0x42, 0x4E, 0xCC, 0x01, 1, 4, 28, 32, 64, 6, 32, 8, 16, 64, 32, 4, 0x00, 0x04]))
    ∧ (s.accepts .echo tag body → exec (.echo tag body) s = .next (s.answered .echo tag (0 :: body)))
    ∧ (s.link.rx = .awaitingSync → s.link.used < 16 → 1023 < body.length →
        exec (.echo tag body) s = .next (s.answered .echo tag [3]))
    ∧ (s.link.rx = .awaitingSync → s.link.used < 16 → s.link.table.any (fun p => p.tag = tag) = false →
        s.link.table.length < 8 → s.accepts .identify tag [] ∧ (body.length ≤ 1023 → s.accepts .echo tag body))

/-- R189. -/
def Obligations.StatusReply : Prop :=
  ∀ (s : State) (tag : Byte),
    (s.link.rx = .awaitingSync → s.link.used < 16 → s.link.table.any (fun p => p.tag = tag) = false →
        s.link.table.length < 8 → s.accepts .getStatus tag [])
    ∧ (s.accepts .getStatus tag [] → exec (.getStatus tag []) s = .next (s.answered .getStatus tag
      ([0, if s.link.started then 1 else 0, s.acq.state.code, s.acq.kind.code, if s.acq.stopPending then 1 else 0]
        ++ leBytes 2 s.sett.gen.toNat ++ leBytes 6 s.acq.seq
        ++ [(s.chanState .ch1).code, (s.chanState .ch2).code, (s.chanState .ch3).code, (s.chanState .ch4).code]
        ++ [s.chans.unit.c1.cal.code, s.chans.unit.c2.cal.code, s.chans.unit.c3.cal.code, s.chans.unit.c4.cal.code]
        ++ [s.cap.power.code, s.disp.power.code, BitVec.ofNat 8 s.auth.set.bits, s.auth.state.code]
        ++ [if s.auth.override then 1 else 0, BitVec.ofNat 8 s.store.queue.length]
        ++ [if s.store.running.isSome then 1 else 0, if s.link.todSet then 1 else 0]
        ++ leBytes 4 (if s.link.todSet then s.link.tod.toNat else 0) ++ leBytes 2 s.link.errors
        ++ leBytes 2 s.link.lost)))

/-- The reading requests change nothing but the reply queue, in which they leave an OK reply of the length their rules
give: 37, 64, 281 and 868 bytes, and for GET_HISTORY 13 and 14 for each of up to 64 entries. -/
def Obligations.ReadingChangesNothing : Prop :=
  ∀ (s : State) (tag : Byte) (k : ReqKind) (body : List Byte) (cond : BitVec 4), s.accepts k tag body →
    k = .getStatus ∨ k = .getCal ∨ k = .getPanel ∨ k = .listSlots ∨ k = .getHistory →
    ∃ b, exec (k.command tag body cond) s = .next (s.answered k tag b) ∧ b.head? = some 0
      ∧ (k = .getStatus → b.length = 37) ∧ (k = .getCal → b.length = 64) ∧ (k = .getPanel → b.length = 281)
      ∧ (k = .listSlots → b.length = 868)
      ∧ (k = .getHistory → ∃ n, n ≤ 64 ∧ b.length = 13 + 14 * n
          ∧ n = min 64 ((s.cap.completed.filter fun p => ofLe body ≤ p.2.seq).length))

/-- R36, R83, R150, R152, R160, R171: the contents of the replies to GET_CAL, GET_HISTORY, GET_PANEL and LIST_SLOTS,
byte by byte, each item as it stands. A lamp is listed with the state it shows by Table 8-4 and Table 9-2. -/
def Obligations.ReadingContents : Prop :=
  ∀ (s : State) (tag : Byte),
    let bit (b : Bool) : Byte := if b then 1 else 0
    (s.accepts .getCal tag [] → exec (.getCal tag []) s = .next (s.answered .getCal tag ([0] ++ leInt 2 s.chans.temp
      ++ [bit s.chans.sampled] ++ [Channel.ch1, .ch2, .ch3, .ch4].flatMap fun ch =>
        let u := s.chans.unit.get ch
        [(s.chanState ch).code, bit u.latch, u.cal.code, bit u.record.valid] ++ leInt 1 u.record.calOffset
          ++ leInt 2 u.record.calTemp ++ leInt 1 u.record.tempco ++ leInt 2 u.record.staleLimit
          ++ leBytes 2 u.record.calCount ++ leInt 1 u.t ++ leInt 1 u.d ++ [bit u.takeTarget])))
    ∧ (∀ body : List Byte, s.accepts .getHistory tag body →
      let v := s.sett.vals
      let found := (s.cap.completed.map Prod.snd).filter fun f => ofLe body ≤ f.seq
      let mask (x : ChSet) : Byte := (if x.c1 then 1 else 0) + (if x.c2 then 2 else 0) + (if x.c3 then 4 else 0)
        + (if x.c4 then 8 else 0)
      exec (.getHistory tag body) s = .next (s.answered .getHistory tag
        ([0, BitVec.ofNat 8 (min 64 found.length), if 64 < found.length then 1 else 0] ++ leBytes 2 s.sett.gen.toNat
          ++ leBytes 2 s.cap.segs.length ++ leInt 1 v.acqLength
          ++ leBytes 4 (min (v.len * v.trigPosition.toNat / 1000) (v.len - 1)) ++ [mask v.enabled]
          ++ (found.take 64).flatMap fun f => leBytes 6 f.seq ++ leBytes 6 f.trigTime.toNat
            ++ [(if f.forced then 1 else 0) + (if f.draw then 2 else 0) + (if f.read then 4 else 0), mask f.invalid])))
    ∧ (s.accepts .getPanel tag [] →
      let p := s.panel
      let shown (l : Lamp) : Byte := match l.source with
        | .link => l.state.code
        | .running => bit s.acq.state.isRunning
        | .stopped => if s.acq.state = .stopped then 1 else 0
        | .singleArmed => if s.acq.state.isRunning = true ∧ s.acq.kind = .single then 1 else 0
        | .chanOn ch => if s.chanState ch = .on then 1 else 0
        | .chanProtected ch => if s.chanState ch = .isProtected then 3 else 0
        | .localSet => if s.auth.state = .requested then 2 else if s.auth.state = .denied then 3
          else if s.auth.set = ⟨true, true, true, true⟩ then 0 else 1
        | .storeBusy => bit s.store.running.isSome
        | .anyStale => if s.chans.unit.c1.cal = .stale ∨ s.chans.unit.c2.cal = .stale ∨ s.chans.unit.c3.cal = .stale
            ∨ s.chans.unit.c4.cal = .stale then 1 else 0
      ∃ b : List Byte, exec (.getPanel tag []) s = .next (s.answered .getPanel tag b) ∧ b.length = 281
        ∧ b.take 4 = [0, bit p.scanning] ++ leBytes 2 p.ms.toNat
        ∧ (∀ k, k < 64 → (b.getD (4 + k / 8) 0).getLsbD (k % 8) = (p.key k).pressed
          ∧ (b.drop (12 + 3 * k)).take 3 = [(p.binding k).action.code,
              match (p.binding k).action with | .saveSlot n => BitVec.ofNat 8 n | .recallSlot n => BitVec.ofNat 8 n | _ => 0,
              bit (p.binding k).repeatFlag + 2 * bit (p.binding k).alsoFlag])
        ∧ (∀ e, e < 6 → (b.drop (204 + 2 * e)).take 2 = [(p.encTarget e).code,
              match p.encTarget e with | .position ch => BitVec.ofNat 8 ch.num | .scale ch => BitVec.ofNat 8 ch.num | _ => 0])
        ∧ (∀ n l, p.lamps.toList[n]? = some l → (b.drop (216 + 2 * n)).take 2 = [l.source.code, shown l])
        ∧ b.drop 280 = [BitVec.ofNat 8 p.brightness])
    ∧ (s.accepts .listSlots tag [] → ∃ b : List Byte, exec (.listSlots tag []) s = .next (s.answered .listSlots tag b)
      ∧ b.length = 868
      ∧ b.take 4 = [0, bit s.store.autoEnable, BitVec.ofNat 8 s.store.queue.length, bit s.store.running.isSome]
      ∧ (∀ k, k < 32 → let e := s.store.entry k
        (b.drop (4 + 27 * k)).take 27 = [e.state.code, bit e.isProtected,
            match e.origin with | some .link => 0 | some .panel => 1 | some .auto => 2 | none => 0, bit e.savedAt.isSome]
          ++ leBytes 4 (match e.savedAt with | some x => x.toNat | none => 0) ++ leBytes 2 e.writeCount
          ++ [BitVec.ofNat 8 e.name.length] ++ (e.name ++ List.replicate 16 0).take 16))

/-! ## Requests that LINK answers, link errors and outbound frames -/

/-- The first check of R181 that applies gives the reply, which leaves the rest of the state alone; that IDENTIFY and
GET_STATUS with a body are answered BAD_LENGTH is log entry 9. SET_CLOCK stores the seconds and marks the counter set
(a second begins there, log entry 28); SET_NOTICE_MASK stores the flags with READY's set, and refuses bits 12 to 15
with one byte (R184, R190; log entry 17). -/
def Obligations.RequestChecksAndClock : Prop :=
  (∀ (s : State) (tag : Byte) (body : List Byte), s.link.rx = .awaitingSync → s.link.used < 16 →
    (∀ kind : Byte, (∀ k : ReqKind, k.code ≠ kind) → exec (.unknownKind kind tag body) s
      = .next (s.setLink { s.link with replies := s.link.replies ++ [⟨kind + 0x80, tag, [2]⟩] }))
    ∧ ∀ (k : ReqKind) (cond : BitVec 4), ¬ (k = .resetPart ∧ s.link.started = true ∧ body = []) →
      (k.badLength body = true → exec (k.command tag body cond) s = .next (s.answered k tag [3]))
      ∧ (k.badLength body = false →
        (s.link.table.any (fun p => p.tag = tag) = true →
          exec (k.command tag body cond) s = .next (s.answered k tag [10]))
        ∧ (s.link.table.any (fun p => p.tag = tag) = false →
          (s.link.started = false ∧ k ≠ .identify ∧ k ≠ .echo ∧ k ≠ .getStatus →
            exec (k.command tag body cond) s = .next (s.answered k tag [15]))
          ∧ (s.link.started = true ∨ k = .identify ∨ k = .echo ∨ k = .getStatus → 8 ≤ s.link.table.length →
            exec (k.command tag body cond) s = .next (s.answered k tag [6])))))
  ∧ ∀ (s : State) (tag a b c d : Byte),
    (s.accepts .setClock tag [a, b, c, d] →
      ∃ l, exec (.setClock tag [a, b, c, d]) s = .next ((s.setLink l).answered .setClock tag [0])
        ∧ l = { s.link with tod := l.tod, todSet := true, todUs := 0 }
        ∧ l.tod.toNat = a.toNat + 256 * b.toNat + 65536 * c.toNat + 16777216 * d.toNat)
    ∧ (s.accepts .setNoticeMask tag [a, b] →
      (16 ≤ b.toNat → exec (.setNoticeMask tag [a, b]) s = .next (s.answered .setNoticeMask tag [4]))
      ∧ (b.toNat < 16 → ∃ l, exec (.setNoticeMask tag [a, b]) s
            = .next ((s.setLink l).answered .setNoticeMask tag [0, a ||| 1, b])
          ∧ l = { s.link with mask := l.mask } ∧ l.mask.toNat = (a ||| 1).toNat + 256 * b.toNat))

/-- R180: with 16 places used a valid frame of any kind is a NO_ROOM link error, and no reply is queued for it;
RESET_PART with an empty body outside start-up is the exception. -/
def Obligations.NoRoomIsALinkError : Prop :=
  ∀ (s : State) (tag : Byte) (body : List Byte), s.link.rx = .awaitingSync → 16 ≤ s.link.used →
    (∀ (k : ReqKind) (cond : BitVec 4), ¬ (k = .resetPart ∧ s.link.started = true ∧ body = []) →
      ∃ t, exec (k.command tag body cond) s = .next t ∧ exec (.noRoom k.code tag body) s = .next t
        ∧ linkErrorOf s t .noRoom ∧ t.link.rx = .awaitingSync)
    ∧ (∀ kind : Byte, (∀ k : ReqKind, k.code ≠ kind) →
      ∃ t, exec (.unknownKind kind tag body) s = .next t ∧ exec (.noRoom kind tag body) s = .next t
        ∧ linkErrorOf s t .noRoom)

/-- R178: a frame with a body length above 1024, a frame whose check does not match, and a frame cut by the release of
chip select are link errors with their causes (that a release finds the cut frame in its operand is log entry 10).
After a bad length every byte is ignored until chip select is asserted: a request, a frame of an unknown kind, a frame
that would be discarded and a frame that finds no room leave the state as it is (log entries 9 and 10). The three
commands complete with every operand and in every state. -/
def Obligations.DiscardedFrames : Prop :=
  ∀ (s : State),
    (∀ kind tag n0 n1 : Byte, ∀ rest : List Byte, s.link.rx = .awaitingSync →
      (1024 < n0.toNat + 256 * n1.toNat →
        ∃ t, exec (.inboundFrameDiscarded (0x5A :: kind :: tag :: n0 :: n1 :: rest)) s = .next t
          ∧ linkErrorOf s t .length ∧ t.link.rx = .ignoring)
      ∧ (∀ (body : List Byte) (c0 c1 : Byte), rest = body ++ [c0, c1] → body.length = n0.toNat + 256 * n1.toNat →
        body.length ≤ 1024 → leBytes 2 (crc16 (kind :: tag :: n0 :: n1 :: body)).toNat ≠ [c0, c1] →
        ∃ t, exec (.inboundFrameDiscarded (0x5A :: kind :: tag :: n0 :: n1 :: rest)) s = .next t
          ∧ linkErrorOf s t .check ∧ t.link.rx = .awaitingSync)
      ∧ (n0.toNat + 256 * n1.toNat ≤ 1024 → rest.length < 2 + (n0.toNat + 256 * n1.toNat) →
        ∃ t, exec (.chipSelectRelease (0x5A :: kind :: tag :: n0 :: n1 :: rest)) s = .next t
          ∧ linkErrorOf s t .released ∧ t.link.rx = .awaitingSync
          ∧ t.link.outBuf = s.link.outBuf.map fun f => { f with sent := 0 }))
    ∧ (∀ residue : List Byte, (0x5A : Byte) ∉ residue ∨ s.link.rx = .ignoring → exec (.chipSelectRelease residue) s
        = .next (s.setLink { s.link with outBuf := s.link.outBuf.map fun f => { f with sent := 0 } }))
    ∧ exec .chipSelectAssert s = .next (s.setLink { s.link with rx := .awaitingSync })
    ∧ (s.link.rx = .ignoring → ∀ (kind tag : Byte) (body : List Byte),
      (∀ (k : ReqKind) (cond : BitVec 4), exec (k.command tag body cond) s = .next s)
      ∧ exec (.unknownKind kind tag body) s = .next s ∧ exec (.noRoom kind tag body) s = .next s
      ∧ exec (.inboundFrameDiscarded body) s = .next s)
    ∧ (∀ residue : List Byte, ∃ t, exec (.chipSelectRelease residue) s = .next t ∧ t = s.setLink t.link
      ∧ t.link.rx = s.link.rx ∧ t.link.table = s.link.table ∧ t.link.replies = s.link.replies
      ∧ t.link.outBuf = s.link.outBuf.map fun f => { f with sent := 0 })
    ∧ (∀ frame : List Byte, ∃ t, exec (.inboundFrameDiscarded frame) s = .next t ∧ t = s.setLink t.link
      ∧ t.link.table = s.link.table ∧ t.link.replies = s.link.replies ∧ t.link.outBuf = s.link.outBuf)

/-- R182, R185: the oldest reply goes first, and otherwise the oldest notice; a frame that a release cut off begins
again (log entry 36); a shared place freed while notices have been lost takes an OVERFLOW notice with the lost count,
unless OVERFLOW is masked. The byte sent with a clock is the sync byte of the frame chosen, the next byte of one in
the buffer, and 0x00 with nothing to send; with the last byte of a frame the buffer is empty. OUTBOUND_FRAME_START is
the clock of a later byte too, and OUTBOUND_FRAME_END every clock to the last byte (the model's choice, log entry 51);
with the buffer empty it changes nothing (log entry 7). ATTN stands while a frame waits or goes out. R177: the bytes
of a frame, and its check. R183, R184: a notice of a masked kind does nothing; one without a subject takes one of 10
shared places or is counted as lost; one with a subject is merged into the entry that stands for it (R14, R73, R149,
R178), or joins the queue. Each kind's body, item by item (R14, R37, R73, R134, R143, R149, R161, R174, R178, R185,
R186). -/
def Obligations.OutboundFramesAndNotices : Prop :=
  (∀ s : State,
    (s.link.outBuf = none → ∀ (r : Reply) (rs : List Reply), s.link.replies = r :: rs →
      exec .outboundFrameStart s = .next (s.setLink
        { s.link with replies := rs, outBuf := some ⟨frameBytes r.kind r.tag r.body, 1⟩ }))
    ∧ (s.link.outBuf = none → s.link.replies = [] → ∀ (n : Notice) (ns : List Notice), s.link.notices = n :: ns →
      exec .outboundFrameStart s = .next (s.setLink
        { s.link with
          outBuf := some ⟨frameBytes n.kindByte 0 n.body, 1⟩
          notices := if n.isShared = true ∧ 0 < s.link.lost ∧ s.link.mask.getLsbD 11 = true
            then ns ++ [.overflow s.link.lost] else ns
          lost := if n.isShared = true then 0 else s.link.lost }))
    ∧ (s.link.outBuf = none → s.link.replies ≠ [] ∨ s.link.notices ≠ [] → s.byteOut = 0x5A)
    ∧ (s.link.outBuf = none → s.link.replies = [] → s.link.notices = [] →
      s.byteOut = 0x00 ∧ exec .outboundFrameStart s = .next s)
    ∧ (∀ f, s.link.outBuf = some f → f.sent < f.bytes.length →
      f.bytes[f.sent]? = some s.byteOut ∧ s.link.bytesLeft = f.bytes.drop f.sent
      ∧ exec .outboundFrameStart s = .next (s.setLink { s.link with
          outBuf := if f.sent + 1 < f.bytes.length then some ⟨f.bytes, f.sent + 1⟩ else none }))
    ∧ exec .outboundFrameEnd s = .next (s.setLink { s.link with outBuf := none })
    ∧ (s.attn = true ↔ s.link.replies ≠ [] ∨ s.link.notices ≠ [] ∨ s.link.outBuf ≠ none))
  ∧ (∀ (kind tag : Byte) (body : List Byte), body.length ≤ 1024 → ∃ n0 n1 c0 c1 : Byte,
    frameBytes kind tag body = 0x5A :: kind :: tag :: n0 :: n1 :: (body ++ [c0, c1])
      ∧ n0.toNat + 256 * n1.toNat = body.length
      ∧ c0.toNat + 256 * c1.toNat = (crc16 (kind :: tag :: n0 :: n1 :: body)).toNat)
  ∧ crc16 [] = 0xFFFF
  ∧ (∀ (bs : List Byte) (b : Byte), crc16 (bs ++ [b]) = (List.range 8).foldl
      (fun (c : BitVec 16) (i : Nat) => (c <<< 1) ^^^ (if c.msb ≠ b.getLsbD (7 - i) then 0x1021 else 0)) (crc16 bs))
  ∧ ∀ (l : Link) (n : Notice),
    let bit (b : Bool) : Byte := if b then 1 else 0
    let num (k : Nat) : Byte := BitVec.ofNat 8 k
    let set (g : AuthSet) : Byte :=
      bit g.acquisition + 2 * bit g.trigger + 4 * bit g.display + 8 * bit g.store
    let shared (m : Notice) : Bool := match m with
      | .encoder .. | .setting .. | .segment .. | .linkError .. => false
      | _ => true
    let standsFor (m : Notice) : Bool := match m, n with
      | .encoder e .., .encoder e' .. => e == e'
      | .setting k .., .setting k' .. => k == k'
      | .segment .., .segment .. => true
      | .linkError .., .linkError .. => true
      | _, _ => false
    let merged (m : Notice) : Notice := match m, n with
      | .encoder _ sum refused _, .encoder e delta refused' target =>
        .encoder e (max (-32767) (min 32767 (sum + delta))) (refused || refused') target
      | .segment _ _ count, .segment seq gen _ => .segment seq gen (if count < 65535 then count + 1 else count)
      | .linkError _ count _, .linkError errors _ cause =>
        .linkError errors (if count < 65535 then count + 1 else count) cause
      | _, new => new
    let kind : Nat := match n with
      | .ready .. => 0 | .key .. => 1 | .encoder .. => 2 | .setting .. => 3 | .segment .. => 4 | .acqState .. => 5
      | .channel .. => 6 | .localReq .. => 7 | .store .. => 8 | .display .. => 9 | .linkError .. => 10 | .overflow .. => 11
    (l.mask.getLsbD kind = false → l.present n = l)
    ∧ (l.mask.getLsbD kind = true →
      (shared n = true → (l.notices.filter shared).length < 10 → l.present n = { l with notices := l.notices ++ [n] })
      ∧ (shared n = true → 10 ≤ (l.notices.filter shared).length →
          l.present n = { l with lost := if l.lost < 65535 then l.lost + 1 else l.lost })
      ∧ (shared n = false → (∀ m ∈ l.notices, standsFor m = false) →
          l.present n = { l with notices := l.notices ++ [n] })
      ∧ (∀ pre m post, l.notices = pre ++ m :: post → standsFor m = true → (∀ x ∈ pre, standsFor x = false) →
          l.present n = { l with notices := pre ++ merged m :: post }))
    ∧ n.kindByte = 0x60 + num kind
    ∧ n.body = match n with
      | .ready image cal bad => [bit image, bit cal, num bad]
      | .key k ev stamp action outcome status =>
        [num k, match ev with | .press => 0 | .release => 1 | .repeat => 2 | .long => 3] ++ leBytes 2 stamp.toNat
          ++ [action.code, match outcome with | .reported => 0 | .done => 1 | .refused => 2 | .failed => 3, status.code]
      | .encoder e sum refused target => [num e] ++ leInt 2 sum ++ [bit refused, target.code]
      | .setting k x o => [num k.id] ++ leInt 8 x
          ++ [match o with | .link => 0 | .panel => 1 | .recall => 2 | .startUp => 3 | .derived => 4]
      | .segment seq gen count => leBytes 6 seq ++ leBytes 2 gen.toNat ++ leBytes 2 count
      | .acqState ev cause st k gen seq =>
        [match ev with | .started => 0 | .stopped => 1 | .calibrating => 2 | .kindChanged => 3,
          match cause with
          | .request => 0 | .stopAtCompletion => 1 | .singleDone => 2 | .sequenceComplete => 3
          | .calibrationEnded => 4 | .noChannel => 5,
          match st with
          | .stopped => 0 | .arming => 1 | .fillingPre => 2 | .ready => 3 | .fillingPost => 4 | .calibrating => 5,
          match k with | .continuous => 0 | .sequence => 1 | .single => 2] ++ leBytes 2 gen.toNat ++ leBytes 6 seq
      | .channel ch ev st latch cal d =>
        [num ch.num, match ev with | .isProtected => 0 | .restored => 1 | .fresh => 2 | .stale => 3,
          match st with | .off => 0 | .on => 1 | .isProtected => 2 | .calibrating => 3, bit latch,
          match cal with | .none => 0 | .fresh => 1 | .stale => 2] ++ leInt 1 d
      | .localReq ev g st override =>
        [match ev with
          | .requested => 0 | .granted => 1 | .denied => 2 | .timedOut => 3 | .overridden => 4 | .resolved => 5,
          set g, match st with | .idle => 0 | .requested => 1 | .denied => 2, bit override]
      | .store op origin slot status st count =>
        [match op with
          | .save => 0 | .recall => 1 | .erase => 2 | .protect => 3 | .autosave => 4 | .calWrite => 5,
          match origin with | .link => 0 | .panel => 1 | .auto => 2 | .cal => 3, num slot, status.code,
          match st with | .empty => 0 | .valid => 1 | .bad => 2 | .writing => 3] ++ leBytes 2 count
      | .display ev cause power =>
        [match ev with | .on => 0 | .blank => 1 | .wake => 2,
          match cause with | .request => 0 | .timeout => 1 | .activity => 2 | .startUp => 3,
          match power with | .blank => 0 | .poweringUp => 1 | .on => 2 | .dim => 3 | .poweringDown => 4]
      | .linkError errors count cause => leBytes 2 errors ++ leBytes 2 count
          ++ [match cause with | .released => 0 | .length => 1 | .check => 2 | .noRoom => 3]
      | .overflow lost => leBytes 2 lost

/-! ## Invariants that every step keeps -/

/-- R180: at most 8 requests are pending, and replies queued and owed take at most 16 places. -/
def Obligations.StepKeepsRequestPlaces : Prop :=
  ∀ s t : State, s.link.placesOk = true → step s = .next t → t.link.placesOk = true

/-- R183: at most 10 shared places of the notice queue are in use, and at most one entry stands for each coalescing
subject. -/
def Obligations.StepKeepsNoticePlaces : Prop :=
  ∀ s t : State, s.link.noticesOk = true → step s = .next t → t.link.noticesOk = true

/-- R1: every setting lies within its range as the range stands. -/
def Obligations.StepKeepsSettingsInRange : Prop :=
  ∀ s t : State, s.sett.vals.inRange = true → step s = .next t → t.sett.vals.inRange = true

/-- The model's own representation (log entry 5): the capture memory, the intensity maps and the overlay planes are
lists of addresses and bytes in canonical form, addresses rising and no byte 0 listed, and every step keeps that form.
-/
def Obligations.StepKeepsMemoriesCanonical : Prop :=
  ∀ s t : State, s.memoriesOk = true → step s = .next t → t.memoriesOk = true

/-- R27: every channel's applied correction lies within -64..63 at all times, as its target and the error of its record
do. -/
def Obligations.StepKeepsDriftInRange : Prop :=
  ∀ s t : State, s.chans.driftOk = true → step s = .next t → t.chans.driftOk = true

/-- R180, R181: the tags of the pending requests differ, and every deferred reply that an owner holds is owed to a
pending request of its own. -/
def Obligations.StepKeepsOwedTags : Prop :=
  ∀ s t : State, s.owedOk = true → step s = .next t → t.owedOk = true

/-- R175, R181, R186: until the scan ends start-up runs and no self-calibration does; the state right after a full reset
begins so. -/
def Obligations.StepKeepsStartUp : Prop :=
  State.reset.startUpOk = true ∧ ∀ s t : State, s.startUpOk = true → step s = .next t → t.startUpOk = true

/-- The state right after a full reset meets the seven invariants. -/
def Obligations.ResetMeetsInvariants : Prop :=
  State.reset.link.placesOk = true ∧ State.reset.link.noticesOk = true ∧ State.reset.sett.vals.inRange = true
    ∧ State.reset.memoriesOk = true ∧ State.reset.chans.driftOk = true ∧ State.reset.owedOk = true
    ∧ State.reset.codesOk = true

/-! ## Resets and start-up -/

/-- FULL_RESET leaves the full-reset values of the tables of the chapters (R17, R38, R57, R74, R91, R111, R135, R153,
R162, R176, R191); the store device is unchanged but for the sector of an operation that it cuts, and the encoder
lines keep their levels (log entries 4 and 33). A PROTECT is cut in its read-back as in its rewrite (log entry 54),
and slot 0 as every other (log entry 60); the model's count of the choices of R78 goes on (log entry 61). RESET_PART,
outside start-up and with an empty body, whatever places are used, leaves the link-reset values (R187). -/
def Obligations.ResetValues : Prop :=
  (∀ (cut : CutPhase) (s : State), ∃ t, exec (.fullReset cut) s = .next t ∧ t.races = s.races
    ∧ t.link.rx = .awaitingSync ∧ t.link.table = [] ∧ t.link.replies = [] ∧ t.link.notices = [] ∧ t.link.outBuf = none
    ∧ t.attn = false ∧ t.link.mask = 0xFFF ∧ t.link.errors = 0 ∧ t.link.lost = 0 ∧ t.link.tod = 0
    ∧ t.link.todSet = false ∧ t.link.started = false
    ∧ t.sett.vals = Settings.defaults ∧ t.sett.gen = 0
    ∧ (∀ ch, (t.chans.unit.get ch).latch = false ∧ (t.chans.unit.get ch).front.isolated = false
        ∧ (t.chans.unit.get ch).record = ⟨false, 0, 0, 0, 50, 0⟩ ∧ (t.chans.unit.get ch).cal = .none
        ∧ (t.chans.unit.get ch).d = 0 ∧ (t.chans.unit.get ch).takeTarget = true)
    ∧ t.chans.temp = 250 ∧ t.chans.sampled = false ∧ t.chans.selfCal = none
    ∧ t.trig.rising = false ∧ t.trig.falling = false ∧ t.trig.width = none ∧ t.trig.holdoff = none ∧ t.trig.auto = none
    ∧ t.trig.force = false ∧ t.trig.lastForced = .no
    ∧ t.acq.state = .stopped ∧ t.acq.kind = .continuous ∧ t.acq.stopPending = false ∧ t.acq.seq = 0 ∧ t.acq.base = 0
    ∧ t.acq.inFlight = none
    ∧ t.cap.segs = List.replicate 16 .free ∧ t.cap.len = 16384 ∧ t.cap.chans = 1 ∧ t.cap.history = []
    ∧ t.cap.waiting = false ∧ t.cap.readout = .abandoned ∧ t.cap.idle = none ∧ t.cap.power = .active
    ∧ t.rend = ⟨⟨[], [], [], []⟩, none, none, ⟨false, false, false, false⟩, ⟨false, false, false, false⟩⟩
    ∧ t.disp.power = .blank ∧ t.disp.logic = false ∧ t.disp.planeA = [] ∧ t.disp.planeB = [] ∧ t.disp.frontA = true
    ∧ t.disp.queue = [] ∧ t.disp.sync = false ∧ t.disp.onLevel = 15 ∧ t.disp.dimLevel = 3
    ∧ t.disp.dimTimeout = 300 ∧ t.disp.blankTimeout = 1800 ∧ t.disp.idle = none ∧ t.disp.palette = defaultPalette
    ∧ t.disp.blankPending = false ∧ t.disp.wakePending = none
    ∧ t.panel.scanning = false ∧ t.panel.ms = 0 ∧ t.panel.brightness = 15
    ∧ (∀ k, t.panel.key k = ⟨false, 0, false, none⟩)
    ∧ (∀ k, t.panel.binding k = ⟨.report, false, false⟩) ∧ (∀ e, t.panel.encTarget e = .report)
    ∧ (∀ e, t.panel.enc e = ⟨(s.panel.enc e).a, (s.panel.enc e).b,
        if (s.panel.enc e).a = false ∧ (s.panel.enc e).b = false then .rest else .lost, none⟩)
    ∧ t.panel.lamps.toList = List.replicate 32 ⟨.link, .off⟩
    ∧ t.auth = ⟨⟨true, true, true, true⟩, true, .idle, none, none⟩
    ∧ t.store.queue = [] ∧ t.store.running = none ∧ t.store.autoTimer = none ∧ t.store.autoEnable = true
    ∧ t.store.autoHeld = none ∧ t.store.calPending = false ∧ t.store.scanning = true
    ∧ (s.store.running = none → t.store.device = s.store.device)
    ∧ (∀ op ops r, s.store.queue = op :: ops → s.store.running = some r →
      (op.kind = .calWrite → t.store.device = { s.store.device with cal := .spoiled })
      ∧ (op.kind = .recall → t.store.device = s.store.device)
      ∧ (op.kind ≠ .calWrite → t.store.device.cal = s.store.device.cal
        ∧ ∀ j, j ≠ op.slot → t.store.device.sector j = s.store.device.sector j)
      ∧ (op.slot < 32 →
        (op.kind = .erase → t.store.device.sector op.slot
          = if cut = .readBack true ∨ cut = .readBack false then .blank else .spoiled)
        ∧ (op.kind = .protect → t.store.device.sector op.slot = .spoiled)
        ∧ (op.kind = .save ∨ op.kind = .autosave →
          (cut ≠ .readBack true → t.store.device.sector op.slot = .spoiled)
          ∧ (∀ i, cut = .readBack true → op.image = some i →
              ∃ h, t.store.device.sector op.slot = .written h i)))))
  ∧ ∀ (s : State) (tag : Byte), s.link.rx = .awaitingSync → s.link.started = true →
    ∃ t, exec (.resetPart tag []) s = .next t
    ∧ t.link = { s.link with table := [], replies := [⟨0x84, tag, [0]⟩], notices := [], outBuf := none, mask := 0xFFF
                             errors := 0, lost := 0 }
    ∧ t.attn = true ∧ t.sett.vals = Settings.defaults ∧ t.sett.gen = 0
    ∧ (∀ ch, (t.chans.unit.get ch).latch = (s.chans.unit.get ch).latch
        ∧ (t.chans.unit.get ch).front = ⟨6, 0, 0, 0, (s.chans.unit.get ch).latch, false⟩
        ∧ (t.chans.unit.get ch).record = (s.chans.unit.get ch).record
        ∧ (t.chans.unit.get ch).cal = (s.chans.unit.get ch).cal ∧ (t.chans.unit.get ch).d = (s.chans.unit.get ch).d
        ∧ (t.chans.unit.get ch).takeTarget = true)
    ∧ t.chans.temp = s.chans.temp ∧ t.chans.sampled = s.chans.sampled ∧ t.chans.selfCal = none
    ∧ t.trig.rising = false ∧ t.trig.falling = false ∧ t.trig.width = none ∧ t.trig.holdoff = none ∧ t.trig.auto = none
    ∧ t.trig.force = false ∧ t.trig.lastForced = .no ∧ t.trig.lc = clampInt (128 - (s.chans.unit.get .ch1).d) 2 253
    ∧ t.trig.ladder = s.trig.ladder ∧ t.trig.loS = 1 ∧ t.trig.hiS = 1
    ∧ t.acq.state = .stopped ∧ t.acq.kind = .continuous ∧ t.acq.stopPending = false ∧ t.acq.seq = 0 ∧ t.acq.base = 0
    ∧ t.acq.inFlight = none
    ∧ t.cap.segs = List.replicate 16 .free ∧ t.cap.len = 16384 ∧ t.cap.chans = 1 ∧ t.cap.history = []
    ∧ t.cap.waiting = false ∧ t.cap.idle = none
    ∧ t.cap.readout = (if s.cap.readout = .closed then .closed else .abandoned)
    ∧ t.cap.power = (if s.cap.power ≠ .active then .waking else if s.disp.power = .blank then .retention else .active)
    ∧ t.rend = ⟨⟨[], [], [], []⟩, none, none, ⟨false, false, false, false⟩, ⟨false, false, false, false⟩⟩
    ∧ t.disp = { s.disp with
        planeA := [], planeB := [], queue := [], sync := false, palette := defaultPalette
        idle := if s.disp.power = .on ∨ s.disp.power = .dim then some 0 else s.disp.idle }
    ∧ t.panel.keys = s.panel.keys ∧ t.panel.scanning = s.panel.scanning ∧ t.panel.ms = s.panel.ms
    ∧ t.panel.brightness = 15
    ∧ (∀ k, t.panel.binding k = ⟨.report, false, false⟩) ∧ (∀ e, t.panel.encTarget e = .report)
    ∧ (∀ e, t.panel.enc e = { s.panel.enc e with run := none })
    ∧ t.panel.lamps.toList = List.replicate 32 ⟨.link, .off⟩
    ∧ t.auth = ⟨⟨true, true, true, true⟩, true, .idle, none, none⟩
    ∧ t.store = { s.store with
        queue := if s.store.running = none then [] else s.store.queue.take 1
        running := s.store.running.map fun r => { r with silent := true }
        autoTimer := none, autoEnable := true, autoHeld := none, calPending := false, scanning := false }

/-- R17, R24, R27, R38, R57, R175, R186: the end of the scan ends start-up. An image of slot 0 is applied, each value
clamped into its range; the channels take the records read, each field of a valid record clamped. READY joins the
notice queue first, then CHAN's notices, in ascending channel number (log entry 45), of the channels whose overload
condition latches them; DISP begins its power-up and PANEL begins to scan. TRIG's codes and width limits are computed
from the values then standing (R57). The bad slots are counted from the directory just built. With no scan running
nothing happens (log entry 7). That no self-calibration runs during the scan is StepKeepsStartUp. -/
def Obligations.StartUpEnds : Prop :=
  ∀ (s : State) (flaws : BitVec 33) (cond : BitVec 4),
    (s.store.scanning = false → exec (.startUpScanEnd flaws cond) s = .next s)
    ∧ (s.store.scanning = true → s.chans.selfCal = none →
      let latches (t : State) (ch : Channel) : Bool :=
        decide ((t.sett.vals.chan.get ch).term = 1) && !(s.chans.unit.get ch).latch && cond.getLsbD (ch.num - 1)
      ∃ t, exec (.startUpScanEnd flaws cond) s = .next t ∧ t.link.started = true ∧ t.store.scanning = false
      ∧ t.disp.power = .poweringUp ∧ t.disp.logic = true ∧ t.disp.cause = .startUp ∧ t.panel.scanning = true
      ∧ t.store.device = s.store.device ∧ t.store.autoTimer = s.store.autoTimer ∧ t.sett.gen = s.sett.gen
      ∧ (s.link.mask.getLsbD 0 = true → s.link.sharedUsed < 10 →
        ∃ more, t.link.notices = s.link.notices ++ [.ready (s.store.device.scanImage flaws).isSome
            (s.store.device.scanCal flaws).isSome (t.store.dir.toList.filter fun e => e.state == .bad).length] ++ more
          ∧ (∀ n ∈ more, ∃ ch d cal st, n = .channel ch .isProtected st true cal d)
          ∧ (s.link.mask.getLsbD 6 = true → s.link.sharedUsed ≤ 5 →
            more = ([Channel.ch1, .ch2, .ch3, .ch4].filter (latches t)).map fun ch =>
              .channel ch .isProtected (if (t.sett.vals.chan.get ch).enable = 0 then .off else .isProtected) true
                (t.chans.unit.get ch).cal (t.chans.unit.get ch).d))
      ∧ (∀ k, k < 32 → (t.store.entry k).state = (if flaws.getLsbD k then .bad
          else match s.store.device.sector k with | .blank => .empty | .written _ _ => .valid | .spoiled => .bad))
      ∧ (s.store.device.scanImage flaws = none → t.sett.vals = s.sett.vals)
      ∧ (∀ i, s.store.device.scanImage flaws = some i → ∀ k,
          t.sett.vals.get k = clampInt (i.vals.get k) (t.sett.vals.range k).1 (t.sett.vals.range k).2)
      ∧ (s.store.device.scanCal flaws = none → ∀ ch, (t.chans.unit.get ch).record = (s.chans.unit.get ch).record
          ∧ (t.chans.unit.get ch).cal = (s.chans.unit.get ch).cal ∧ (t.chans.unit.get ch).d = (s.chans.unit.get ch).d)
      ∧ (∀ q, s.store.device.scanCal flaws = some q → ∀ ch,
          ((q.get ch).valid = false → (t.chans.unit.get ch).record = q.get ch ∧ (t.chans.unit.get ch).cal = .none
            ∧ (t.chans.unit.get ch).d = 0)
          ∧ ((q.get ch).valid = true → (t.chans.unit.get ch).record =
              { q.get ch with
                calOffset := clampInt (q.get ch).calOffset (-64) 63, calTemp := clampInt (q.get ch).calTemp (-400) 1250
                tempco := clampInt (q.get ch).tempco (-8) 8, staleLimit := clampInt (q.get ch).staleLimit 10 500
                calCount := min (q.get ch).calCount 65535 }
            ∧ (t.chans.unit.get ch).cal = .fresh
            ∧ (t.chans.unit.get ch).d = clampInt (q.get ch).calOffset (-64) 63))
      ∧ t.cap.segs = List.replicate t.sett.vals.kEff .free ∧ t.cap.history = [] ∧ t.codesStand = true
      ∧ (∀ ch, (t.chans.unit.get ch).latch = ((s.chans.unit.get ch).latch || latches t ch)
          ∧ (t.chans.unit.get ch).front = ⟨(t.sett.vals.chan.get ch).scale, (t.sett.vals.chan.get ch).offset,
              (t.sett.vals.chan.get ch).coupling, (t.sett.vals.chan.get ch).term,
              (s.chans.unit.get ch).latch || latches t ch, false⟩))

/-! ## Settings -/

/-- R3, R4, R10: a write that leaves the stored value as it was is answered with that value, CLAMPED if it was clamped,
and has no other effect. -/
def Obligations.UnchangedWriteHasNoEffect : Prop :=
  ∀ (s : State) (tag : Byte) (k : Setting) (v : List Byte) (cond : BitVec 4),
    s.accepts .set tag (BitVec.ofNat 8 k.id :: v) →
    clampInt (ofLeSigned v) (s.sett.vals.range k).1 (s.sett.vals.range k).2 = s.sett.vals.get k →
    exec (.set tag (BitVec.ofNat 8 k.id :: v) cond) s = .next (s.answered .set tag
      ((if ofLeSigned v = s.sett.vals.get k then 0 else 1) :: BitVec.ofNat 8 k.id :: leInt 8 (s.sett.vals.get k)
        ++ [if s.trig.limited then 1 else 0]))

/-- R10: SET of a known setting stores the clamped value and answers with it; an unknown id is answered BAD_VALUE with
the id, and any length but nine bytes BAD_LENGTH. At a restart its reply stands after the deferred replies of a
readout that was OPENING (log entry 59). -/
def Obligations.SetStoresAndAnswers : Prop :=
  ∀ (s : State) (tag : Byte) (v : List Byte) (cond : BitVec 4), s.owedOk = true →
    (∀ k : Setting, s.accepts .set tag (BitVec.ofNat 8 k.id :: v) →
      let e := clampInt (ofLeSigned v) (s.sett.vals.range k).1 (s.sett.vals.range k).2
      ∃ t, exec (.set tag (BitVec.ofNat 8 k.id :: v) cond) s = .next t
        ∧ t.sett.vals.get k = e
        ∧ (∀ k', k' ≠ k → (∀ ch, k ≠ .scale ch) → k ≠ .acqLength → k ≠ .viewSpan →
            t.sett.vals.get k' = s.sett.vals.get k')
        ∧ t.link.replies.getLast? = some ⟨0x90, tag, (if e = ofLeSigned v then 0 else 1) :: BitVec.ofNat 8 k.id
            :: leInt 8 e ++ [if t.trig.limited then 1 else 0]⟩
        ∧ t.disp = s.disp ∧ t.panel = s.panel ∧ t.auth = s.auth ∧ t.clock = s.clock ∧ t.pending = s.pending
        ∧ t.store = { s.store with autoTimer := t.store.autoTimer })
    ∧ (∀ id : Byte, (∀ k : Setting, k.id ≠ id.toNat) → s.accepts .set tag (id :: v) →
        exec (.set tag (id :: v) cond) s = .next (s.answered .set tag [4, id]))
    ∧ (s.link.rx = .awaitingSync → s.link.used < 16 → v.length ≠ 9 →
        exec (.set tag v cond) s = .next (s.answered .set tag [3]))

/-- R6, R9, R56: a SET that changes a setting of class RESTART (ids 1 to 35 and 58) performs one restart, in which the
generation rises by one, no segment stays complete, the memory is partitioned afresh and the maps are cleared; a change
of any other setting leaves the generation and the partition. With the restart TRIG recomputes its code for a changed
scale or offset of the source channel and its width limits for a changed interval, and no code or limit besides (R40,
R47, R56). -/
def Obligations.RestartClass : Prop :=
  ∀ (s : State) (tag : Byte) (k : Setting) (v : List Byte) (cond : BitVec 4),
    s.accepts .set tag (BitVec.ofNat 8 k.id :: v) →
    clampInt (ofLeSigned v) (s.sett.vals.range k).1 (s.sett.vals.range k).2 ≠ s.sett.vals.get k →
    ∃ t, exec (.set tag (BitVec.ofNat 8 k.id :: v) cond) s = .next t
      ∧ (k.id ≤ 35 ∨ k.id = 58 →
          t.sett.gen = s.sett.gen + 1 ∧ t.cap.history = [] ∧ (∀ f, Segment.complete f ∉ t.cap.segs)
          ∧ t.cap.len = t.sett.vals.len ∧ t.cap.chans = t.sett.vals.e ∧ t.cap.segs.length = t.sett.vals.kEff
          ∧ (s.cap.readout.isOpen = true → t.cap.readout.isOpen = false)
          ∧ t.rend = ⟨⟨[], [], [], []⟩, none, none, ⟨false, false, false, false⟩, ⟨false, false, false, false⟩⟩
          ∧ (let w := t.sett.vals
            (k = .acqInterval → t.trig.loS = max 1 (roundAway w.trigWidthLo w.intervalNs)
              ∧ t.trig.hiS = max 1 (roundAway w.trigWidthHi w.intervalNs))
            ∧ (k ≠ .acqInterval → t.trig.loS = s.trig.loS ∧ t.trig.hiS = s.trig.hiS)
            ∧ t.trig.ladder = s.trig.ladder
            ∧ (∀ ch, w.source = some ch → k = .scale ch ∨ k = .offset ch →
              let raw := 128 - (s.chans.unit.get ch).d
                + roundAway ((w.trigLevel + (w.chan.get ch).offset) * 32) (w.scaleMv ch * 1000)
              let lc := clampInt raw w.trigHyst (255 - w.trigHyst)
              t.trig.lc = lc ∧ t.trig.limited = decide (raw ≠ lc))
            ∧ ((∀ ch, w.source = some ch → k ≠ .scale ch ∧ k ≠ .offset ch) →
              t.trig.lc = s.trig.lc ∧ t.trig.limited = s.trig.limited)))
      ∧ (¬ (k.id ≤ 35 ∨ k.id = 58) →
          t.sett.gen = s.sett.gen ∧ t.cap.len = s.cap.len ∧ t.cap.chans = s.cap.chans
          ∧ t.cap.segs.length = s.cap.segs.length)
      ∧ t.store.autoTimer = (if s.store.autoEnable then some ⟨5000000, 0⟩ else s.store.autoTimer)

/-- R40 to R42, R47, R56: the settings of class LIVE and the codes of TRIG. A SET that changes TRIG_LEVEL or TRIG_HYST
recomputes the comparator code of a channel source, or the ladder code of EXT, with its level-limited flag, and keeps
the arming state; one that changes TRIG_HOLDOFF or TRIG_MODE leaves all of TRIG as it was, its running timers among it.
From the end of start-up the codes and the width limits are those of the values standing, after whatever command; and
the comparator code lies within [h, 255 - h]. -/
def Obligations.TriggerLevel : Prop :=
  (∀ (s : State) (tag : Byte) (k : Setting) (b : List Byte) (cond : BitVec 4),
    s.accepts .set tag (BitVec.ofNat 8 k.id :: b) →
    let e := clampInt (ofLeSigned b) (s.sett.vals.range k).1 (s.sett.vals.range k).2
    e ≠ s.sett.vals.get k → k.id = 51 ∨ k.id = 52 ∨ k.id = 56 ∨ k.id = 57 →
    let w := s.sett.vals.put k e
    ∃ t, exec (.set tag (BitVec.ofNat 8 k.id :: b) cond) s = .next t ∧ t.sett = { s.sett with vals := w }
      ∧ t.acq = s.acq ∧ t.cap = s.cap ∧ t.chans = s.chans ∧ t.rend = s.rend ∧ t.disp = s.disp
      ∧ (k.id = 56 ∨ k.id = 57 → t.trig = s.trig)
      ∧ (k.id = 51 ∨ k.id = 52 →
        (∀ ch, w.source = some ch →
          let raw := 128 - (s.chans.unit.get ch).d
            + roundAway ((w.trigLevel + (w.chan.get ch).offset) * 32) (w.scaleMv ch * 1000)
          let lc := clampInt raw w.trigHyst (255 - w.trigHyst)
          t.trig = { s.trig with lc := lc, limited := decide (raw ≠ lc) })
        ∧ (w.source = none →
          let raw := roundAway ((w.trigLevel + 5000000) * 255) 10000000
          t.trig = { s.trig with ladder := clampInt raw 0 255, limited := decide (raw < 0 ∨ 255 < raw) })))
  ∧ (∀ s t : State, s.codesOk = true → step s = .next t → t.codesOk = true)
  ∧ (∀ (s : State) (ch : Channel), s.codesOk = true → s.sett.vals.inRange = true → s.link.started = true →
      s.sett.vals.source = some ch → s.sett.vals.trigHyst ≤ s.trig.lc ∧ s.trig.lc ≤ 255 - s.sett.vals.trigHyst)

/-- R8, R15: a SET that changes PERSIST_DECAY, INTENSITY or GRATICULE only stores the value and restarts the autosave
timer. -/
def Obligations.PlainClass : Prop :=
  ∀ (s : State) (tag : Byte) (k : Setting) (v : List Byte) (cond : BitVec 4),
    k = .persistDecay ∨ k = .intensity ∨ k = .graticule →
    s.accepts .set tag (BitVec.ofNat 8 k.id :: v) →
    let e := clampInt (ofLeSigned v) (s.sett.vals.range k).1 (s.sett.vals.range k).2
    e ≠ s.sett.vals.get k →
    exec (.set tag (BitVec.ofNat 8 k.id :: v) cond) s = .next
      (((s.setSett { s.sett with vals := s.sett.vals.put k e }).setStore
          { s.store with autoTimer := if s.store.autoEnable then some ⟨5000000, 0⟩ else s.store.autoTimer }).answered
        .set tag ((if e = ofLeSigned v then 0 else 1) :: BitVec.ofNat 8 k.id :: leInt 8 e
          ++ [if s.trig.limited then 1 else 0]))

/-- R7, R8, R55, R105, R108: a SET that changes a setting of class REARM (ids 48 to 50 and 53 to 55) clears the arming
state and the width measurement, stops the auto timer, started afresh in READY under AUTO, and recomputes the codes of
a changed source and the limits of changed widths; it keeps holdoff, a pending force and the acquisition. A SET that
changes a setting of class REDRAW (ids 64 to 71) clears the named maps and marks and abandons a pass in flight, whose
DRAW hold is released; lit, the newest history entry is drawn afresh with the settings as they now stand. A redraw
that serves a waiting ACQ is left out. -/
def Obligations.RearmAndRedraw : Prop :=
  ∀ (s : State) (tag : Byte) (k : Setting) (v : List Byte) (cond : BitVec 4),
    s.accepts .set tag (BitVec.ofNat 8 k.id :: v) →
    clampInt (ofLeSigned v) (s.sett.vals.range k).1 (s.sett.vals.range k).2 ≠ s.sett.vals.get k →
    ∃ t, exec (.set tag (BitVec.ofNat 8 k.id :: v) cond) s = .next t
      ∧ (k.id = 48 ∨ k.id = 49 ∨ k.id = 50 ∨ k.id = 53 ∨ k.id = 54 ∨ k.id = 55 →
        let w := t.sett.vals
        let autoUs := 1000 * min 60000 (max 100 ((2 * w.len * w.intervalNs + 999999) / 1000000))
        t.trig = { s.trig with
            rising := false, falling := false, width := none
            auto := if s.acq.state = .ready ∧ w.trigMode = 0 then some ⟨autoUs, 0⟩ else none
            lc := t.trig.lc, ladder := t.trig.ladder, limited := t.trig.limited
            loS := if k.id = 54 ∨ k.id = 55 then max 1 (roundAway w.trigWidthLo w.intervalNs) else s.trig.loS
            hiS := if k.id = 54 ∨ k.id = 55 then max 1 (roundAway w.trigWidthHi w.intervalNs) else s.trig.hiS }
        ∧ (k.id ≠ 48 → t.trig.lc = s.trig.lc ∧ t.trig.ladder = s.trig.ladder ∧ t.trig.limited = s.trig.limited)
        ∧ (∀ ch, k.id = 48 → w.source = some ch →
            let raw := 128 - (s.chans.unit.get ch).d
              + roundAway ((w.trigLevel + (w.chan.get ch).offset) * 32) (w.scaleMv ch * 1000)
            t.trig.lc = clampInt raw w.trigHyst (255 - w.trigHyst) ∧ t.trig.ladder = s.trig.ladder)
        ∧ (k.id = 48 → w.source = none → t.trig.lc = s.trig.lc
            ∧ t.trig.ladder = clampInt (roundAway ((w.trigLevel + 5000000) * 255) 10000000) 0 255)
        ∧ t.acq = s.acq ∧ t.cap = s.cap ∧ t.chans = s.chans ∧ t.rend = s.rend ∧ t.sett.gen = s.sett.gen)
      ∧ (64 ≤ k.id → k.id ≤ 71 →
        let named (ch : Channel) : Bool := decide (68 ≤ k.id ∨ k.id = 63 + ch.num)
        (∀ ch, t.rend.maps.get ch = (if named ch then [] else s.rend.maps.get ch)
            ∧ t.rend.above.get ch = (!named ch && s.rend.above.get ch)
            ∧ t.rend.below.get ch = (!named ch && s.rend.below.get ch))
        ∧ t.rend.lastDrawn = none
        ∧ (s.cap.waiting = false →
        t.trig = s.trig ∧ t.acq = s.acq ∧ t.chans = s.chans ∧ t.sett.gen = s.sett.gen
        ∧ t.cap.mem = s.cap.mem ∧ t.cap.history = s.cap.history ∧ t.cap.readout = s.cap.readout
        ∧ (s.disp.power ≠ .on → s.disp.power ≠ .dim → t.rend.pass = none
          ∧ ∀ ps f, s.rend.pass = some ps → s.cap.seg ps.seg = .complete f →
              t.cap.seg ps.seg = .complete { f with draw := false })
        ∧ (s.disp.power = .on ∨ s.disp.power = .dim → ∀ i f, s.cap.history.getLast? = some i → s.cap.seg i = .complete f →
          i < s.cap.segs.length →
          (∃ ps, t.rend.pass = some ps ∧ ps.seg = i ∧ ps.seq = f.seq ∧ ps.next = 0 ∧ ps.p = t.sett.vals.position
            ∧ ps.s = t.sett.vals.viewStart.toNat ∧ ps.w = t.sett.vals.viewSpan.toNat
            ∧ ps.style = t.sett.vals.drawStyle ∧ ps.h = t.sett.vals.intensity.toNat
            ∧ (∀ ch, ps.d.get ch = (s.chans.unit.get ch).d
              ∧ ps.drawn.get ch = (f.present.get ch && !f.invalid.get ch && decide (s.chanState ch = .on))))
          ∧ t.cap.seg i = .complete { f with draw := true }
          ∧ ∀ ps g, s.rend.pass = some ps → ps.seg ≠ i → s.cap.seg ps.seg = .complete g →
              t.cap.seg ps.seg = .complete { g with draw := false })))

/-- R5, R14, R19, R23, R32: the re-clamps that a SET of a scale, of the record length or of the view span causes, each
reported by a SETTING notice of origin DERIVED if it changed a value, and a change of a termination. To 1 MΩ it clears
a latch that is set and connects the input; to 50 Ω it has the overload condition read, which latches and isolates the
channel; in the channel's own calibration turn it is remembered and the front end is left for the turn's end. Where
one shared place is left, the CHANNEL notice takes it before an ACQ_STATE notice of the same transaction (log entry
14). -/
def Obligations.DerivedAndTermination : Prop :=
  ∀ (s : State) (tag : Byte) (v : List Byte) (cond : BitVec 4),
    let set (k : Setting) : Instr := .set tag (BitVec.ofNat 8 k.id :: v) cond
    let e (k : Setting) : Int := clampInt (ofLeSigned v) (s.sett.vals.range k).1 (s.sett.vals.range k).2
    let changes (k : Setting) : Prop := s.accepts .set tag (BitVec.ofNat 8 k.id :: v) ∧ e k ≠ s.sett.vals.get k
    let derived (t : State) (ks : List Setting) : Prop :=
      (s.link.mask.getLsbD 3 = true → ∀ k ∈ ks, t.sett.vals.get k ≠ s.sett.vals.get k →
        Notice.setting k (t.sett.vals.get k) .derived ∈ t.link.notices)
      ∧ (∀ k x o, Notice.setting k x o ∈ t.link.notices → Notice.setting k x o ∈ s.link.notices
          ∨ (k ∈ ks ∧ o = .derived ∧ x = t.sett.vals.get k ∧ x ≠ s.sett.vals.get k))
    (∀ ch, changes (.scale ch) → ∃ t, exec (set (.scale ch)) s = .next t ∧ derived t [.offset ch]
      ∧ (t.sett.vals.chan.get ch).scale = e (.scale ch)
      ∧ (let r : Int := 10 * (t.sett.vals.scaleMv ch : Int) * 1000
        (t.sett.vals.chan.get ch).offset = clampInt (s.sett.vals.chan.get ch).offset (-r) r)
      ∧ ((∀ c, s.chans.selfCal = some c → c.turn ≠ ch) → (t.chans.unit.get ch).front =
          ⟨(t.sett.vals.chan.get ch).scale, (t.sett.vals.chan.get ch).offset, (t.sett.vals.chan.get ch).coupling,
            (t.sett.vals.chan.get ch).term, (s.chans.unit.get ch).latch, false⟩))
    ∧ (changes .acqLength → ∃ t, exec (set .acqLength) s = .next t ∧ derived t [.viewStart, .viewSpan]
      ∧ t.sett.vals.acqLength = e .acqLength ∧ t.sett.vals.viewSpan = clampInt s.sett.vals.viewSpan 640 t.sett.vals.len
      ∧ t.sett.vals.viewStart = clampInt s.sett.vals.viewStart 0 (t.sett.vals.len - t.sett.vals.viewSpan))
    ∧ (changes .viewSpan → ∃ t, exec (set .viewSpan) s = .next t ∧ derived t [.viewStart]
      ∧ t.sett.vals.viewSpan = e .viewSpan
      ∧ t.sett.vals.viewStart = clampInt s.sett.vals.viewStart 0 (s.sett.vals.len - t.sett.vals.viewSpan))
    ∧ (∀ ch, changes (.term ch) →
      let u := s.chans.unit.get ch
      let c := s.sett.vals.chan.get ch
      let state : ChanState := if c.enable = 0 then .off else .on
      let front (latch : Bool) : FrontEnd := ⟨c.scale, c.offset, c.coupling, e (.term ch), latch, false⟩
      ∃ t, exec (set (.term ch)) s = .next t ∧ (t.sett.vals.chan.get ch).term = e (.term ch)
        ∧ (∀ x, x ≠ ch → t.chans.unit.get x = s.chans.unit.get x)
        ∧ (∀ w, s.chans.selfCal = some w → w.turn = ch → t.chans.unit = s.chans.unit
          ∧ t.chans.selfCal = some { w with to50 := w.to50 || (decide (c.term = 0) && decide (e (.term ch) = 1)) })
        ∧ ((∀ w, s.chans.selfCal = some w → w.turn ≠ ch) →
          let latch : Bool := if c.term = 1 ∧ e (.term ch) = 0 then false
            else u.latch || (decide (c.term = 0) && decide (e (.term ch) = 1) && cond.getLsbD (ch.num - 1))
          t.chans = { s.chans with unit := s.chans.unit.put ch { u with latch := latch, front := front latch } }
          ∧ (s.link.mask.getLsbD 6 = true → s.link.sharedUsed < 10 →
            (u.latch = true → latch = false →
              Notice.channel ch .restored state false u.cal u.d ∈ t.link.notices)
            ∧ (u.latch = false → latch = true →
              Notice.channel ch .isProtected (if c.enable = 0 then .off else .isProtected) true u.cal u.d
                ∈ t.link.notices))))

/-- R3 to R6, R11: a batch with an unknown id is refused whole with the index of the first such pair (one byte, log
entry 42). Any other is one transaction: each pair in turn is clamped into its range and stored, with the re-clamps it
causes, so that a setting holds the clamped value of its last pair and one that no pair writes and no re-clamp reaches
stands. It performs one restart if a RESTART setting changed, and is answered CLAMPED if a pair was clamped, with
every pair's value at its end; at a restart its reply stands after the deferred replies of a readout that was OPENING
(log entry 59). -/
def Obligations.SetBatchIsOneTransaction : Prop :=
  ∀ (s : State) (tag n : Byte) (rest : List Byte) (cond : BitVec 4),
    s.accepts .setBatch tag (n :: rest) →
    let pairs := pairsOf n.toNat rest
    let ids := pairs.map Prod.fst
    let ws := pairWrites pairs
    (∀ i, firstUnknown ids = some i →
      exec (.setBatch tag (n :: rest) cond) s = .next (s.answered .setBatch tag [4, BitVec.ofNat 8 i]))
    ∧ (firstUnknown ids = none → ws.map (fun w => (w.1.id, w.2)) = pairs
      ∧ ∃ t, exec (.setBatch tag (n :: rest) cond) s = .next t
        ∧ t.sett.vals = s.sett.vals.writtenAll ws
        ∧ t.sett.gen = (if s.sett.vals.restartsIn ws then s.sett.gen + 1 else s.sett.gen)
        ∧ (∀ k, k ∉ ws.map Prod.fst → (∀ ch, k = .offset ch → .scale ch ∉ ws.map Prod.fst) →
            (k = .viewSpan → .acqLength ∉ ws.map Prod.fst) →
            (k = .viewStart → .acqLength ∉ ws.map Prod.fst ∧ .viewSpan ∉ ws.map Prod.fst) →
            t.sett.vals.get k = s.sett.vals.get k)
        ∧ (∀ pre k x post, ws = pre ++ (k, x) :: post → k ∉ post.map Prod.fst → (∀ ch, k ≠ .offset ch) → k ≠ .viewSpan →
            k ≠ .viewStart → t.sett.vals.get k = clampInt x (s.sett.vals.range k).1 (s.sett.vals.range k).2)
        ∧ (s.owedOk = true → t.link.replies.getLast? = some ⟨0x91, tag,
            ((if s.sett.vals.clampsIn ws then 1 else 0) :: n :: (knownSettings ids).flatMap
              fun k => BitVec.ofNat 8 k.id :: leInt 8 (t.sett.vals.get k)) ++ [if t.trig.limited then 1 else 0]⟩)
        ∧ t.disp = s.disp ∧ t.panel = s.panel ∧ t.auth = s.auth)

/-- R12: GET answers OK with the count and one entry of id and stored value for each listed id, or for all 46 in
ascending id on an empty list (416 bytes); with an unknown id BAD_VALUE and the index of the first, of one byte (log
entry 42); a body above 46 ids is BAD_LENGTH. Nothing else changes. -/
def Obligations.GetReads : Prop :=
  ∀ (s : State) (tag : Byte) (body : List Byte),
    (s.link.rx = .awaitingSync → s.link.used < 16 → 46 < body.length →
      exec (.get tag body) s = .next (s.answered .get tag [3]))
    ∧ (s.accepts .get tag body →
    (∀ i, firstUnknown (body.map BitVec.toNat) = some i →
      exec (.get tag body) s = .next (s.answered .get tag [4, BitVec.ofNat 8 i]))
    ∧ (firstUnknown (body.map BitVec.toNat) = none → body ≠ [] →
      exec (.get tag body) s = .next (s.answered .get tag (0 :: BitVec.ofNat 8 body.length ::
        (knownSettings (body.map BitVec.toNat)).flatMap fun k => BitVec.ofNat 8 k.id :: leInt 8 (s.sett.vals.get k))))
    ∧ (body = [] → ∃ b, exec (.get tag body) s = .next (s.answered .get tag (0 :: 46 :: b)) ∧ b.length = 414
        ∧ b = Setting.all.flatMap fun k => BitVec.ofNat 8 k.id :: leInt 8 (s.sett.vals.get k)))

/-! ## Channels -/

/-- R22, R38: a clear latch is answered OK and nothing changes; an overload condition, of which a front end programmed
at 1 MΩ has none, refuses the request; otherwise the
latch clears, the input is connected, and a RESTORED notice is presented with what then stands. -/
def Obligations.RestoreChannel : Prop :=
  ∀ (s : State) (tag b : Byte) (cond : BitVec 4), s.accepts .restoreChannel tag [b] →
    (b.toNat = 0 ∨ 4 < b.toNat →
      exec (.restoreChannel tag [b] cond) s = .next (s.answered .restoreChannel tag [4]))
    ∧ ∀ ch : Channel, ch.num = b.toNat →
      let u := s.chans.unit.get ch
      let t := s.setUnit ch { u with latch := false, front := { u.front with isolated := false } }
      (u.latch = false → exec (.restoreChannel tag [b] cond) s = .next (s.answered .restoreChannel tag [0]))
      ∧ (u.latch = true → u.front.term = 1 → cond.getLsbD (ch.num - 1) = true →
          exec (.restoreChannel tag [b] cond) s = .next (s.answered .restoreChannel tag [5, 4]))
      ∧ (u.latch = true → u.front.term ≠ 1 ∨ cond.getLsbD (ch.num - 1) = false →
          exec (.restoreChannel tag [b] cond) s = .next
            ((t.present (.channel ch .restored (t.chanState ch) false u.cal u.d)).answered .restoreChannel tag [0]))

/-- R20, R21, R32: an overload report is taken while the termination is 50 Ω and the latch is clear. It sets the latch,
isolates the input, adds an enabled channel to the invalid set of the segment being filled, and presents a PROTECTED
notice; it does not touch acquisition. In the channel's own turn it fails that turn. -/
def Obligations.OverloadReport : Prop :=
  ∀ (s : State) (ch : Channel),
    let u := s.chans.unit.get ch
    let set := s.sett.vals.chan.get ch
    (set.term ≠ 1 ∨ u.latch = true → exec (.overloadReport ch) s = .next s)
    ∧ (set.term = 1 → u.latch = false → (∀ c, s.chans.selfCal = some c → c.turn ≠ ch) →
      ∃ t, exec (.overloadReport ch) s = .next t
        ∧ t.chans = { s.chans with
            unit := s.chans.unit.put ch { u with latch := true, front := { u.front with isolated := true } } }
        ∧ t.link = s.link.present (.channel ch .isProtected (if set.enable = 0 then .off else .isProtected) true u.cal u.d)
        ∧ t.cap = { s.cap with segs := t.cap.segs }
        ∧ (∀ i p inv, set.enable ≠ 0 → s.acq.inFlight = some i → s.cap.seg i = .filling p inv →
            t.cap.segs = s.cap.segs.set i (.filling p (inv.put ch (inv.get ch || p.get ch))))
        ∧ (set.enable = 0 ∨ s.acq.inFlight = none → t.cap = s.cap)
        ∧ t.trig = (if set.enable ≠ 0 ∧ s.sett.vals.source = some ch ∧ s.acq.state.isFilling = true
            then { s.trig with rising := false, falling := false, width := none } else s.trig)
        ∧ t.sett = s.sett ∧ t.acq = s.acq ∧ t.rend = s.rend ∧ t.disp = s.disp ∧ t.panel = s.panel ∧ t.auth = s.auth
        ∧ t.store = s.store)
    ∧ (∀ c, s.chans.selfCal = some c → c.turn = ch → set.term = 1 → u.latch = false →
      ∃ t, exec (.overloadReport ch) s = .next t
        ∧ t.chans.unit.get ch = { u with latch := true, front := ⟨set.scale, set.offset, set.coupling, set.term, true, false⟩ }
        ∧ (∀ c', t.chans.selfCal = some c' → c'.turn ∈ c.todo ∧ c'.turn ≠ ch ∧ (⟨ch, 0, .isProtected⟩ : TurnResult) ∈ c'.done)
        ∧ (c.todo = [] → t.acq = { s.acq with state := .stopped }))

/-- R25 to R29: a sample sets T, clamped. After start-up every channel takes its target, its correction moves toward
it by at most one code or takes it, its calibration state follows with a CHANNEL notice at a change, and the
comparator code follows the source channel's correction while the arming state is kept. The notice carries d as this
sample leaves it (the model's choice, log entry 63). -/
def Obligations.TemperatureSample : Prop :=
  ∀ (s : State) (v : Int),
    let T := clampInt v (-400) 1250
    (s.link.started = false →
      exec (.temperatureSample v) s = .next (s.setChans { s.chans with temp := T, sampled := true }))
    ∧ (s.link.started = true → ∃ t, exec (.temperatureSample v) s = .next t
      ∧ t.chans.temp = T ∧ t.chans.sampled = true ∧ t.chans.selfCal = s.chans.selfCal
      ∧ (∀ ch, let u := s.chans.unit.get ch
          let u' := t.chans.unit.get ch
          let r := u.record
          let target := if r.valid then clampInt (r.calOffset + roundAway (r.tempco * (T - r.calTemp)) 100) (-64) 63 else 0
          u' = { u with t := target, takeTarget := false, d := u'.d, cal := u'.cal }
          ∧ u'.d = (if u.takeTarget then target else if u.d < target then u.d + 1
              else if target < u.d then u.d - 1 else u.d)
          ∧ u'.cal = (if r.valid = true ∧ u.cal = .fresh ∧ r.staleLimit < |T - r.calTemp| then .stale
              else if r.valid = true ∧ u.cal = .stale ∧ |T - r.calTemp| ≤ r.staleLimit - 10 then .fresh else u.cal)
          ∧ (u'.cal ≠ u.cal → s.link.mask.getLsbD 6 = true → s.link.sharedUsed ≤ 6 →
              ∃ n, n ∈ t.link.notices
                ∧ n = .channel ch (if u'.cal = .fresh then .fresh else .stale) (s.chanState ch) u.latch u'.cal u'.d))
      ∧ ((∀ ch, (t.chans.unit.get ch).cal = (s.chans.unit.get ch).cal) → t.link = s.link)
      ∧ (∀ ch, s.sett.vals.source = some ch → (t.chans.unit.get ch).d ≠ (s.chans.unit.get ch).d →
          let raw := 128 - (t.chans.unit.get ch).d
            + roundAway ((s.sett.vals.trigLevel + (s.sett.vals.chan.get ch).offset) * 32) (s.sett.vals.scaleMv ch * 1000)
          let lc := clampInt raw s.sett.vals.trigHyst (255 - s.sett.vals.trigHyst)
          t.trig = { s.trig with lc := lc, limited := decide (raw ≠ lc) })
      ∧ ((∀ ch, s.sett.vals.source = some ch → (t.chans.unit.get ch).d = (s.chans.unit.get ch).d) → t.trig = s.trig)
      ∧ t.sett = s.sett ∧ t.acq = s.acq ∧ t.cap = s.cap ∧ t.rend = s.rend ∧ t.disp = s.disp ∧ t.panel = s.panel
      ∧ t.auth = s.auth ∧ t.store = s.store)

/-- R30, R31, R72: SELF_CAL is refused by ACQ's state and by a named channel's latch; otherwise ACQ becomes CALIBRATING,
the lowest named channel's turn begins with its front end programmed for the measurement, and the reply is deferred. -/
def Obligations.SelfCalBegins : Prop :=
  ∀ (s : State) (tag v : Byte), s.accepts .selfCal tag [v] →
    (v.toNat = 0 ∨ 15 < v.toNat → exec (.selfCal tag [v]) s = .next (s.answered .selfCal tag [4]))
    ∧ (1 ≤ v.toNat → v.toNat ≤ 15 →
      (s.acq.state = .calibrating → exec (.selfCal tag [v]) s = .next (s.answered .selfCal tag [5, 1]))
      ∧ (s.acq.state ≠ .calibrating → s.acq.state ≠ .stopped →
          exec (.selfCal tag [v]) s = .next (s.answered .selfCal tag [5, 0]))
      ∧ (∀ ch : Channel, s.acq.state = .stopped → v.toNat.testBit (ch.num - 1) = true →
          (s.chans.unit.get ch).latch = true → exec (.selfCal tag [v]) s = .next (s.answered .selfCal tag [5, 3]))
      ∧ (∀ ch : Channel, s.acq.state = .stopped → v.toNat.testBit (ch.num - 1) = true →
          (∀ x : Channel, v.toNat.testBit (x.num - 1) = true → (s.chans.unit.get x).latch = false ∧ ch.num ≤ x.num) →
          let c := s.sett.vals.chan.get ch
          ∃ t, exec (.selfCal tag [v]) s = .next t
            ∧ t.acq = { s.acq with state := .calibrating }
            ∧ t.trig = { s.trig with rising := false, falling := false, width := none }
            ∧ t.chans = { s.chans with
                unit := s.chans.unit.put ch
                  { s.chans.unit.get ch with front := ⟨c.scale, 0, 0, c.term, false, true⟩ }
                selfCal := some
                  { tag := tag, named := ChSet.ofBits v.toNat, turn := ch, scale := c.scale, to50 := false
                    todo := Channel.all.filter fun x => decide (x ≠ ch) && v.toNat.testBit (x.num - 1), done := [] } }
            ∧ t.link = Link.present { s.link with table := s.link.table ++ [⟨tag, .selfCal⟩] }
                (.acqState .calibrating .request .calibrating s.acq.kind s.sett.gen s.acq.seq)
            ∧ t.sett = s.sett ∧ t.cap = s.cap ∧ t.rend = s.rend ∧ t.disp = s.disp ∧ t.panel = s.panel
            ∧ t.auth = s.auth ∧ t.store = s.store))

/-- R23, R31 to R34, R72, R173: the end of a turn. A mean within the range and an unchanged scale calibrate the
channel, with a FRESH notice unless it was FRESH (it carries CALIBRATING, log entry 16); anything else leaves its
record. The front end takes the channel's settings again; a termination changed to 50 Ω in the turn has its overload
condition read. The next channel whose latch is clear begins its turn, those before it failing as PROTECTED; after the
last, ACQ returns to STOPPED with a CALIBRATION_ENDED notice, the reply is queued, byte by byte, and a calibration
write is requested. With no self-calibration the event changes nothing (log entry 7); d is kept (log entry 43). -/
def Obligations.CalTurnEnd : Prop :=
  ∀ (s : State) (mean16 : Nat) (cond : BitVec 4),
    (s.chans.selfCal = none → exec (.calTurnEnd mean16 cond) s = .next s)
    ∧ ∀ c, s.chans.selfCal = some c → c.turn ∉ c.todo →
      let u := s.chans.unit.get c.turn
      let set := s.sett.vals.chan.get c.turn
      let m := roundAway (2048 - mean16) 16
      let out : TurnOutcome := if set.scale ≠ c.scale then .settingsChanged
        else if -64 ≤ m ∧ m ≤ 63 then .ok else .outOfRange
      let latch : Bool := u.latch || (c.to50 && decide (set.term = 1) && cond.getLsbD (c.turn.num - 1))
      let results (xs : List Channel) : List TurnResult :=
        c.done ++ ⟨c.turn, mean16, out⟩ :: xs.map fun x => ⟨x, 0, .isProtected⟩
      let failed (ch : Channel) : Bool := (results c.todo).any fun r => decide (r.ch = ch ∧ r.outcome ≠ .ok)
      let mask (x : Channel → Bool) : Byte := (if x .ch1 then 1 else 0) + (if x .ch2 then 2 else 0)
        + (if x .ch3 then 4 else 0) + (if x .ch4 then 8 else 0)
      ∃ t, exec (.calTurnEnd mean16 cond) s = .next t
        ∧ (out = .ok → t.chans.unit.get c.turn =
            { u with
              record := { u.record with valid := true, calOffset := m, calTemp := s.chans.temp
                                        calCount := if u.record.calCount < 65535 then u.record.calCount + 1
                                          else u.record.calCount }
              takeTarget := true, cal := .fresh, latch := latch
              front := ⟨set.scale, set.offset, set.coupling, set.term, latch, false⟩ })
        ∧ (out ≠ .ok → t.chans.unit.get c.turn =
            { u with latch := latch, front := ⟨set.scale, set.offset, set.coupling, set.term, latch, false⟩ })
        ∧ (out = .ok → u.cal ≠ .fresh → s.link.mask.getLsbD 6 = true → s.link.sharedUsed < 10 →
            Notice.channel c.turn .fresh .calibrating u.latch .fresh u.d ∈ t.link.notices)
        ∧ (out ≠ .ok ∨ u.cal = .fresh → ∀ ch st l d, Notice.channel ch .fresh st l .fresh d ∈ t.link.notices →
            Notice.channel ch .fresh st l .fresh d ∈ s.link.notices)
        ∧ t.chans.temp = s.chans.temp ∧ t.sett = s.sett ∧ t.rend = s.rend ∧ t.disp = s.disp ∧ t.auth = s.auth
        ∧ (∀ pre ch rest, c.todo = pre ++ ch :: rest → (∀ x ∈ pre, (s.chans.unit.get x).latch = true) →
            (s.chans.unit.get ch).latch = false →
            t.chans.selfCal = some { c with turn := ch, scale := (s.sett.vals.chan.get ch).scale, to50 := false
                                            todo := rest, done := results pre }
            ∧ (t.chans.unit.get ch).front.grounded = true ∧ t.acq = s.acq ∧ t.store = s.store)
        ∧ ((∀ x ∈ c.todo, (s.chans.unit.get x).latch = true) →
            t.chans.selfCal = none ∧ t.acq = { s.acq with state := .stopped }
            ∧ (s.link.table.find? (fun p => p.tag = c.tag) = some ⟨c.tag, .selfCal⟩ →
                (⟨0x98, c.tag, [if mask failed = 0 then 0 else 14, mask c.named.get, mask failed]
                  ++ (results c.todo).flatMap fun r => [BitVec.ofNat 8 r.ch.num, BitVec.ofNat 8 r.mean16,
                    BitVec.ofNat 8 (r.mean16 / 256), match r.outcome with
                      | .ok => 0 | .outOfRange => 1 | .isProtected => 2 | .settingsChanged => 3]⟩ : Reply)
                  ∈ t.link.replies)
            ∧ (s.link.mask.getLsbD 5 = true → s.link.sharedUsed < 8 →
                Notice.acqState .stopped .calibrationEnded .stopped s.acq.kind s.sett.gen s.acq.seq ∈ t.link.notices)
            ∧ (s.store.queue = [] → s.store.running = none →
                t.store.queue = [⟨.calWrite, .cal, 255, 0, [], none, false⟩]
                ∧ ∃ r, t.store.running = some r ∧ r.records = t.chans.unit.map ChanUnit.record))

/-! ## Trigger -/

/-- R53, Table 3-7. -/
def Obligations.ForceTrigger : Prop :=
  ∀ (s : State) (tag : Byte) (body : List Byte),
    (s.link.rx = .awaitingSync → s.link.used < 16 → body ≠ [] →
      exec (.forceTrigger tag body) s = .next (s.answered .forceTrigger tag [3]))
    ∧ (s.accepts .forceTrigger tag [] →
      (s.acq.state = .ready →
        exec (.forceTrigger tag []) s = .next ((s.triggered .byRequest).answered .forceTrigger tag [0, 0]))
      ∧ (s.acq.state = .arming ∨ s.acq.state = .fillingPre → exec (.forceTrigger tag []) s
          = .next ((s.setTrig { s.trig with force := true }).answered .forceTrigger tag [0, 1]))
      ∧ (s.acq.state = .fillingPost →
          exec (.forceTrigger tag []) s = .next (s.answered .forceTrigger tag [5, 5]))
      ∧ (s.acq.state = .stopped → exec (.forceTrigger tag []) s = .next (s.answered .forceTrigger tag [5, 6]))
      ∧ (s.acq.state = .calibrating →
          exec (.forceTrigger tag []) s = .next (s.answered .forceTrigger tag [5, 1])))

/-- R43 to R48, R50 to R52, R54, R64: ACQ enters READY when Q samples have been written and holdoff has expired,
whichever comes last; a pending force is taken there, and otherwise AUTO mode starts its timer, whose expiry forces a
trigger. A transition of the external comparator is an edge in the filling states while EXT is the source, at the
position of the next sample (log entry 11); the detectors give a channel source's edges. Under EDGE an edge is a
candidate by the slope, one for a sample position; under WIDTH it begins or ends a pulse, which is judged by the
condition. A candidate is accepted in READY alone. Elsewhere the depth, the expiries and the transition change nothing
(log entry 7). -/
def Obligations.ReadyTimersAndEdges : Prop :=
  (∀ s : State,
      let autoUs := 1000 * min 60000 (max 100 ((2 * s.sett.vals.len * s.sett.vals.intervalNs + 999999) / 1000000))
      let enters (c : Instr) (s' : State) : Prop :=
        (s.trig.force = true →
          exec c s = .next ((s'.setTrig { s'.trig with force := false }).triggered .byRequest))
        ∧ (s.trig.force = false → s.sett.vals.trigMode = 0 → exec c s = .next
            ((s'.setAcq { s'.acq with state := .ready }).setTrig { s'.trig with auto := some ⟨autoUs, 0⟩ }))
        ∧ (s.trig.force = false → s.sett.vals.trigMode ≠ 0 →
            exec c s = .next (s'.setAcq { s'.acq with state := .ready }))
      (s.acq.state = .fillingPre → s.acq.depth = false → s.acq.q ≤ s.cap.pre →
        (s.trig.holdoff = none → enters .preTriggerDepthReached (s.setAcq { s.acq with depth := true }))
        ∧ (s.trig.holdoff ≠ none → exec .preTriggerDepthReached s = .next (s.setAcq { s.acq with depth := true })))
      ∧ (s.acq.state ≠ .fillingPre ∨ s.acq.depth = true ∨ s.cap.pre < s.acq.q →
          exec .preTriggerDepthReached s = .next s)
      ∧ (s.trig.holdoff = none → exec .holdoffExpiry s = .next s)
      ∧ (s.trig.holdoff ≠ none →
        (s.acq.state = .fillingPre → s.acq.depth = true →
          enters .holdoffExpiry (s.setTrig { s.trig with holdoff := none }))
        ∧ (s.acq.state ≠ .fillingPre ∨ s.acq.depth = false →
            exec .holdoffExpiry s = .next (s.setTrig { s.trig with holdoff := none })))
      ∧ (s.trig.auto = none → exec .autoTimerExpiry s = .next s)
      ∧ (s.trig.auto ≠ none →
        (s.acq.state = .ready → exec .autoTimerExpiry s = .next (s.triggered .byAuto))
        ∧ (s.acq.state ≠ .ready → exec .autoTimerExpiry s = .next (s.setTrig { s.trig with auto := none }))))
  ∧ (∀ (s : State) (rising : Bool),
      let v := s.sett.vals
      let wanted := v.trigSlope = 2 ∨ v.trigSlope = (if rising then 0 else 1)
      (s.acq.state.isFilling = false ∨ v.source ≠ none → exec (.extTransition rising) s = .next s)
      ∧ (s.acq.state.isFilling = true → v.source = none →
        (v.trigType = 0 →
          (¬ wanted ∨ s.trig.candHere = true → exec (.extTransition rising) s = .next s)
          ∧ (wanted → s.trig.candHere = false →
            let s' := s.setTrig { s.trig with candHere := true }
            (s.acq.state = .ready → exec (.extTransition rising) s = .next (s'.triggered .no))
            ∧ (s.acq.state ≠ .ready → exec (.extTransition rising) s = .next s')))
        ∧ (v.trigType ≠ 0 →
          (s.trig.width = none → wanted →
            exec (.extTransition rising) s = .next (s.setTrig { s.trig with width := some ⟨rising, 0⟩ }))
          ∧ (s.trig.width = none → ¬ wanted → exec (.extTransition rising) s = .next s)
          ∧ (∀ w, s.trig.width = some ⟨rising, w⟩ → exec (.extTransition rising) s = .next s)
          ∧ (∀ w, s.trig.width = some ⟨!rising, w⟩ →
            let s' := s.setTrig { s.trig with width := if v.trigSlope = 2 then some ⟨rising, 0⟩ else none }
            let meets := (v.trigWidthCond = 0 ∧ s.trig.loS < w) ∨ (v.trigWidthCond = 1 ∧ w < s.trig.hiS)
              ∨ (v.trigWidthCond = 2 ∧ s.trig.loS ≤ w ∧ w ≤ max s.trig.loS s.trig.hiS)
            (meets → s.acq.state = .ready → exec (.extTransition rising) s = .next (s'.triggered .no))
            ∧ (s.acq.state ≠ .ready → exec (.extTransition rising) s = .next s')
            ∧ (¬ meets → 0 ≤ v.trigWidthCond → v.trigWidthCond ≤ 2 →
                exec (.extTransition rising) s = .next s')))))
  ∧ ∀ (s : State) (codes : Quad Byte) (i : Nat) (p inv : ChSet) (ch : Channel),
      s.acq.state.isFilling = true → s.acq.inFlight = some i → s.cap.seg i = .filling p inv →
      s.cap.fits i p s.acq.q = true → s.acq.q + 1 < s.cap.len → s.sett.vals.source = some ch → s.chanState ch = .on →
      s.sett.vals.trigType ≠ 0 →
      let v := s.sett.vals
      let x : Int := (codes.get ch).toNat
      let rises := s.trig.rising = true ∧ s.trig.lc ≤ x
      let falls := s.trig.falling = true ∧ x ≤ s.trig.lc
      let width := s.trig.width.map fun p : Pulse =>
        (⟨p.positive, if p.count < 2 ^ 32 - 1 then p.count + 1 else p.count⟩ : Pulse)
      let c : Instr := .digitizerSample codes
      let stays (t : State) (w : Option Pulse) : Prop := t.trig.width = w ∧ t.trig.holdoff = s.trig.holdoff
        ∧ t.trig.auto = s.trig.auto
        ∧ t.acq = { s.acq with trigTime := if s.cap.awaiting then s.acq.base else s.acq.trigTime }
      let fires (t : State) (w : Option Pulse) : Prop := t.trig.width = w ∧ t.trig.auto = none ∧ t.trig.lastForced = .no
        ∧ t.trig.holdoff = (if v.trigHoldoff ≤ 0 then none else some ⟨v.trigHoldoff.toNat, 0⟩)
        ∧ t.acq = { s.acq with state := .fillingPost, trigTime := s.acq.base, forced := false }
      ∃ t, exec c s = .next t ∧ t.trig.index = s.trig.index + 1
        ∧ (¬ rises → ¬ falls → stays t width)
        ∧ (∀ e : Bool, (e = true → rises ∧ ¬ falls) → (e = false → falls ∧ ¬ rises) →
          let wanted := v.trigSlope = 2 ∨ v.trigSlope = (if e then 0 else 1)
          (width = none → wanted → stays t (some ⟨e, 0⟩))
          ∧ (width = none → ¬ wanted → stays t none)
          ∧ (∀ w, width = some ⟨e, w⟩ → stays t width)
          ∧ (∀ w, width = some ⟨!e, w⟩ →
            let next := if v.trigSlope = 2 then some ⟨e, 0⟩ else none
            let meets := (v.trigWidthCond = 0 ∧ s.trig.loS < w) ∨ (v.trigWidthCond = 1 ∧ w < s.trig.hiS)
              ∨ (v.trigWidthCond = 2 ∧ s.trig.loS ≤ w ∧ w ≤ max s.trig.loS s.trig.hiS)
            (meets → s.acq.state = .ready → fires t next)
            ∧ (s.acq.state ≠ .ready → stays t next)
            ∧ (¬ meets → 0 ≤ v.trigWidthCond → v.trigWidthCond ≤ 2 → stays t next)))

/-! ## Acquisition -/

/-- R61 to R64, R78: RUN and SINGLE are refused while CALIBRATING and with no channel enabled; in a running state RUN
changes nothing and SINGLE converts the run; from STOPPED they start a run, which claims the first segment of the
choice rule, or waits in ARMING for a memory in RETENTION, whose wake begins. With no segment FREE a CONTINUOUS or
SINGLE run takes the oldest entry of the history without a hold, and with none waits in ARMING for a release. With Q =
0 the depth is reached at the entry to FILLING_PRE. The STARTED notice carries ARMING (log entry 15, the model's
choice). -/
def Obligations.RunAndSingle : Prop :=
  ∀ (s : State) (tag : Byte) (single : Bool),
    let k : ReqKind := if single then .single else .run
    let c : Instr := if single then .single tag [] else .run tag []
    let v := s.sett.vals
    let kind : RunKind := if single then .single else if v.acqMode = 0 then .continuous else .sequence
    let running := s.acq.state ≠ .stopped ∧ s.acq.state ≠ .calibrating
    s.accepts k tag [] →
      (s.acq.state = .calibrating → exec c s = .next (s.answered k tag [5, 1]))
      ∧ (s.acq.state ≠ .calibrating → v.e = 0 → exec c s = .next (s.answered k tag [5, 2]))
      ∧ (running → 0 < v.e → single = false ∨ s.acq.kind = .single → exec c s = .next (s.answered k tag [0, 1]))
      ∧ (running → 0 < v.e → single = true → s.acq.kind ≠ .single → exec c s = .next
          (((s.setAcq { s.acq with kind := .single }).present
            (.acqState .kindChanged .request s.acq.state .single s.sett.gen s.acq.seq)).answered k tag [0, 2]))
      ∧ (s.acq.state = .stopped → 0 < v.e → s.cap.power = .active → ∀ i, i < s.cap.segs.length →
          let takes (x : Segment) : Bool := x.isFree || (decide (kind = .sequence) && x.isUnheld)
          takes (s.cap.seg i) = true → (∀ j, j < i → takes (s.cap.seg j) = false) →
          ∃ t, exec c s = .next t
            ∧ t.acq = Acq.filling { s.acq with
                kind := kind, stopPending := false, base := 0, inFlight := some i
                e := v.e, q := min (v.len * v.trigPosition.toNat / 1000) (v.len - 1) } s.trig
            ∧ t.cap.seg i = .filling v.enabled (v.enabled.inter (s.chans.unit.map ChanUnit.latch))
            ∧ (∀ j, j ≠ i → t.cap.seg j = if kind = .sequence ∧ (s.cap.seg j).isUnheld = true then .free else s.cap.seg j)
            ∧ t.cap.history = s.cap.history.filter
                (fun j => decide (j ≠ i) && !(decide (kind = .sequence) && (s.cap.seg j).isUnheld))
            ∧ t.cap.mem = s.cap.mem ∧ t.cap.readout = s.cap.readout ∧ t.cap.power = .active ∧ t.trig.index = 0
            ∧ t.link = (s.link.present (.acqState .started .request .arming kind s.sett.gen s.acq.seq)).answer
                k.code tag [0, 0]
            ∧ t.sett = s.sett ∧ t.chans = s.chans ∧ t.rend = s.rend ∧ t.disp = s.disp ∧ t.panel = s.panel
            ∧ t.auth = s.auth ∧ t.store = s.store)
      ∧ (s.acq.state = .stopped → 0 < v.e → s.cap.power = .active → kind ≠ .sequence →
          (∀ j, j < s.cap.segs.length → s.cap.seg j ≠ .free) →
          let q := min (v.len * v.trigPosition.toNat / 1000) (v.len - 1)
          let a : Acq := { s.acq with kind := kind, stopPending := false, base := 0, e := v.e, q := q }
          let same (t : State) : Prop := t.cap.mem = s.cap.mem ∧ t.cap.readout = s.cap.readout ∧ t.cap.power = .active
            ∧ t.link = (s.link.present (.acqState .started .request .arming kind s.sett.gen s.acq.seq)).answer
                k.code tag [0, 0]
            ∧ t.sett = s.sett ∧ t.chans = s.chans ∧ t.rend = s.rend ∧ t.disp = s.disp ∧ t.panel = s.panel
            ∧ t.auth = s.auth ∧ t.store = s.store
          (∀ pre i post, s.cap.history = pre ++ i :: post → (∀ x ∈ pre, (s.cap.seg x).isUnheld = false) →
            (s.cap.seg i).isUnheld = true → ∃ t, exec c s = .next t ∧ same t
              ∧ t.acq = Acq.filling { a with inFlight := some i } s.trig
              ∧ t.cap.seg i = .filling v.enabled (v.enabled.inter (s.chans.unit.map ChanUnit.latch))
              ∧ (∀ j, j ≠ i → t.cap.seg j = s.cap.seg j) ∧ t.cap.history = s.cap.history.filter (· ≠ i)
              ∧ t.cap.waiting = false ∧ t.trig.index = 0)
          ∧ ((∀ x ∈ s.cap.history, (s.cap.seg x).isUnheld = false) → ∃ t, exec c s = .next t ∧ same t
              ∧ t.acq = { a with state := .arming, inFlight := none, depth := false }
              ∧ t.cap = { s.cap with waiting := true }))
      ∧ (s.acq.state = .stopped → 0 < v.e → s.cap.power = .retention ∨ s.cap.power = .waking →
          ∃ t, exec c s = .next t
            ∧ t.acq = { s.acq with state := .arming, kind := kind, stopPending := false, base := 0, inFlight := none
                                   e := v.e, q := min (v.len * v.trigPosition.toNat / 1000) (v.len - 1), depth := false }
            ∧ t.cap.power = .waking ∧ (kind ≠ .sequence → t.cap = { s.cap with power := .waking })
            ∧ t.link = (s.link.present (.acqState .started .request .arming kind s.sett.gen s.acq.seq)).answer
                k.code tag [0, 0]
            ∧ t.sett = s.sett ∧ t.chans = s.chans ∧ t.rend = s.rend ∧ t.disp = s.disp ∧ t.store = s.store)

/-- R68, Table 4-3. The conditions of R89 are examined at the entry to STOPPED. -/
def Obligations.StopInEachState : Prop :=
  ∀ (s : State) (tag : Byte) (body : List Byte),
    (s.link.rx = .awaitingSync → s.link.used < 16 → body ≠ [] →
      exec (.stop tag body) s = .next (s.answered .stop tag [3]))
    ∧ (s.accepts .stop tag [] →
      (s.acq.state = .arming ∨ s.acq.state = .fillingPre ∨ s.acq.state = .ready → ∃ t, exec (.stop tag []) s = .next t
        ∧ t.acq = { s.acq with state := .stopped, stopPending := false, inFlight := none, depth := false }
        ∧ t.trig = { s.trig with rising := false, falling := false, width := none, holdoff := none, auto := none
                                 force := false }
        ∧ t.cap = { s.cap with
            segs := match s.acq.state, s.acq.inFlight with
              | .arming, _ | _, none => s.cap.segs
              | _, some i => s.cap.segs.set i .free
            waiting := false
            power := if s.cap.power = .active ∧ s.cap.readout.isOpen = false ∧ s.rend.pass = none ∧ s.disp.power = .blank
                ∧ s.link.started = true then .retention else s.cap.power }
        ∧ t.link = (s.link.present (.acqState .stopped .request .stopped s.acq.kind s.sett.gen s.acq.seq)).answer
            0x16 tag [0, 0]
        ∧ t.sett = s.sett ∧ t.chans = s.chans ∧ t.rend = s.rend ∧ t.disp = s.disp ∧ t.panel = s.panel ∧ t.auth = s.auth
        ∧ t.store = s.store)
      ∧ (s.acq.state = .fillingPost → exec (.stop tag []) s
          = .next ((s.setAcq { s.acq with stopPending := true }).answered .stop tag [0, 1]))
      ∧ (s.acq.state = .stopped ∨ s.acq.state = .calibrating →
          exec (.stop tag []) s = .next (s.answered .stop tag [0, 2])))

/-- R21, R43, R60, R65, R79: a sample position in FILLING_PRE or FILLING_POST. Every present channel's code, 128 under
its latch, goes to its place: the circle of Q positions before the trigger, index Q for the trigger sample, the
indices after it later; every other byte of the capture memory reads as before. Both detectors take the source's
sample by Table 3-2, and what they find is lost. With source EXT and with a source that is not ON the detectors stand,
a width count rises by one, and stops at 2^32 - 1 (R46); the position ends, with what it remembered of a candidate
(R44). The awaited trigger sample takes the time base again as the trigger time (R60, R65; the model's reading, log
entry 24), and with Q = L - 1 it completes the fill (R65). -/
def Obligations.SampleWritten : Prop :=
  ∀ (s : State) (codes : Quad Byte) (i : Nat) (p inv : ChSet),
    s.acq.state = .fillingPre ∨ s.acq.state = .fillingPost → s.acq.inFlight = some i → s.cap.seg i = .filling p inv →
    s.cap.fits i p s.acq.q = true → s.cap.mem.wf = true →
    let v := s.sett.vals
    let code (ch : Channel) : Byte :=
      if (s.chans.unit.get ch).latch = true ∧ (v.chan.get ch).enable = 1 then 128 else codes.get ch
    let place : Option Nat :=
      if s.cap.awaiting then some s.acq.q
      else if s.acq.state = .fillingPre then (if s.acq.q = 0 then none else some (s.cap.pre % s.acq.q))
      else if s.acq.q + 1 + s.cap.post < s.cap.len then some (s.acq.q + 1 + s.cap.post) else none
    ∃ t, exec (.digitizerSample codes) s
        = (if s.cap.awaiting = true ∧ s.acq.state = .fillingPost ∧ s.cap.len ≤ s.acq.q + 1
          then exec .postTriggerFillComplete t else .next t)
      ∧ (∀ ch k, p.get ch = true → place = some k → t.cap.mem.read (s.cap.addr i p ch k) = code ch)
      ∧ (∀ a, (∀ ch k, p.get ch = true → place = some k → a ≠ s.cap.addr i p ch k) →
          t.cap.mem.read a = s.cap.mem.read a)
      ∧ t.cap = { s.cap with
          mem := t.cap.mem, awaiting := false
          pre := if s.acq.state = .fillingPre ∧ s.cap.awaiting = false ∧ place ≠ none then s.cap.pre + 1 else s.cap.pre
          post := if s.cap.awaiting then 0
            else if s.acq.state = .fillingPost ∧ place ≠ none then s.cap.post + 1 else s.cap.post }
      ∧ t.acq = { s.acq with trigTime := if s.cap.awaiting then s.acq.base else s.acq.trigTime }
      ∧ t.trig.index = s.trig.index + 1 ∧ t.trig.candHere = false ∧ t.trig.holdoff = s.trig.holdoff ∧ t.trig.auto = s.trig.auto
      ∧ t.trig.lastForced = s.trig.lastForced ∧ t.trig.force = s.trig.force ∧ t.trig.lc = s.trig.lc
      ∧ (∀ ch, v.source = some ch → s.chanState ch = .on →
          let x : Int := (codes.get ch).toNat
          t.trig.rising = (if s.trig.rising then !decide (s.trig.lc ≤ x) else decide (x ≤ s.trig.lc - v.trigHyst))
          ∧ t.trig.falling = (if s.trig.falling then !decide (x ≤ s.trig.lc) else decide (s.trig.lc + v.trigHyst ≤ x)))
      ∧ (v.source = none ∨ (∃ ch, v.source = some ch ∧ s.chanState ch ≠ .on) →
          t.trig = { s.trig with
            index := s.trig.index + 1, candHere := false
            width := s.trig.width.map fun p =>
              { p with count := if p.count < 2 ^ 32 - 1 then p.count + 1 else p.count } })
      ∧ t.sett = s.sett ∧ t.chans = s.chans ∧ t.rend = s.rend ∧ t.disp = s.disp ∧ t.panel = s.panel ∧ t.auth = s.auth
      ∧ t.store = s.store ∧ t.link = s.link

/-- R21, R39, R43 to R49, R65, R79: a sample position in READY. Under EDGE a sample at which a detector that the slope
uses fires is the trigger sample: it is placed at index Q, and the Q samples before it are read in age order; with Q =
L - 1 it completes the fill. A sample at which none fires joins the circle, and the search goes on. Under WIDTH the
trigger sample is one whose edge ends a pulse that meets the condition. With source EXT, whose transitions are
commands of their own, and with a source that is OFF or PROTECTED, the sample joins the circle. Every other byte of
the capture memory reads as before. -/
def Obligations.ComparatorTrigger : Prop :=
  ∀ (s : State) (codes : Quad Byte) (i : Nat) (p inv : ChSet),
    s.acq.state = .ready → s.acq.inFlight = some i → s.cap.seg i = .filling p inv →
    s.cap.fits i p s.acq.q = true → s.cap.mem.wf = true → s.cap.awaiting = false →
    let v := s.sett.vals
    let slope := v.trigSlope
    let code (c : Channel) : Byte :=
      if (s.chans.unit.get c).latch = true ∧ (v.chan.get c).enable = 1 then 128 else codes.get c
    let written (t : State) (place : Nat) : Prop :=
      (∀ c, p.get c = true → t.cap.mem.read (s.cap.addr i p c place) = code c)
      ∧ (∀ a, (∀ c, p.get c = true → a ≠ s.cap.addr i p c place) → t.cap.mem.read a = s.cap.mem.read a)
    let others (t : State) : Prop := t.link = s.link ∧ t.chans = s.chans ∧ t.sett = s.sett ∧ t.rend = s.rend
      ∧ t.disp = s.disp ∧ t.panel = s.panel ∧ t.auth = s.auth ∧ t.store = s.store
    let triggers (t : State) : Prop := written t s.acq.q ∧ others t
      ∧ t.acq = { s.acq with state := .fillingPost, trigTime := s.acq.base, forced := false }
      ∧ t.trig.auto = none ∧ t.trig.lastForced = .no
      ∧ t.trig.holdoff = (if v.trigHoldoff ≤ 0 then none else some ⟨v.trigHoldoff.toNat, 0⟩)
      ∧ t.cap = { s.cap with mem := t.cap.mem, awaiting := false, post := 0
                             oldest := if s.acq.q = 0 then 0 else s.cap.pre % s.acq.q }
    let joins (t : State) : Prop := others t ∧ t.acq = s.acq ∧ t.trig.auto = s.trig.auto ∧ t.trig.holdoff = s.trig.holdoff
      ∧ (s.acq.q = 0 → t.cap = s.cap)
      ∧ (s.acq.q ≠ 0 → written t (s.cap.pre % s.acq.q) ∧ t.cap = { s.cap with mem := t.cap.mem, pre := s.cap.pre + 1 })
    let outcome (fires : Prop) : Prop :=
      (fires → ∃ t, triggers t ∧ exec (.digitizerSample codes) s
          = if s.acq.q + 1 < s.cap.len then .next t else exec .postTriggerFillComplete t)
      ∧ (¬ fires → ∃ t, exec (.digitizerSample codes) s = .next t ∧ joins t)
    (∀ ch, v.source = some ch → s.chanState ch = .on →
      let x : Int := (codes.get ch).toNat
      let rises := s.trig.rising = true ∧ s.trig.lc ≤ x
      let falls := s.trig.falling = true ∧ x ≤ s.trig.lc
      (v.trigType = 0 → outcome (((slope = 0 ∨ slope = 2) ∧ rises) ∨ ((slope = 1 ∨ slope = 2) ∧ falls)))
      ∧ (v.trigType ≠ 0 → ¬ (rises ∧ falls) → 0 ≤ v.trigWidthCond → v.trigWidthCond ≤ 2 →
        let meets (w : Nat) : Prop := (v.trigWidthCond = 0 ∧ s.trig.loS < w) ∨ (v.trigWidthCond = 1 ∧ w < s.trig.hiS)
          ∨ (v.trigWidthCond = 2 ∧ s.trig.loS ≤ w ∧ w ≤ max s.trig.loS s.trig.hiS)
        outcome (∃ pulse, s.trig.width = some pulse ∧ (if pulse.positive then falls else rises)
          ∧ meets (if pulse.count < 2 ^ 32 - 1 then pulse.count + 1 else pulse.count))))
    ∧ (v.source = none ∨ (∃ ch, v.source = some ch ∧ s.chanState ch ≠ .on) →
      ∃ t, exec (.digitizerSample codes) s = .next t ∧ joins t
        ∧ t.trig = { s.trig with
            index := s.trig.index + 1, candHere := false
            width := s.trig.width.map fun p =>
              { p with count := if p.count < 2 ^ 32 - 1 then p.count + 1 else p.count } })

/-- R65 to R67, R71, R80: the completion of a fill, once the trigger sample and the L - Q - 1 samples after it have
been written; before that the event changes nothing (log entry 7). The segment takes the next sequence number and is
filed as the newest of the history, with its SEGMENT notice; the run stops for a pending STOP or a SINGLE, or claims
the lowest free segment. At the last sequence number the completion is a restart instead, and nothing is filed. -/
def Obligations.Completion : Prop :=
  ∀ (s : State) (i : Nat) (p inv : ChSet),
    s.acq.state = .fillingPost → s.acq.inFlight = some i → s.cap.seg i = .filling p inv → i < s.cap.segs.length →
    let seq := s.acq.seq + 1
    let v := s.sett.vals
    let done := s.cap.awaiting = false ∧ s.cap.len ≤ s.acq.q + 1 + s.cap.post
    (¬ done → exec .postTriggerFillComplete s = .next s)
    ∧ (done → s.acq.seq < 2 ^ 48 - 1 → ∃ t, exec .postTriggerFillComplete s = .next t
      ∧ t.acq.seq = seq ∧ t.sett = s.sett ∧ t.chans = s.chans ∧ t.disp = s.disp ∧ t.store = s.store
      ∧ (s.acq.stopPending = true ∨ s.acq.kind = .single ∨ (∃ j, j ≠ i ∧ j < s.cap.segs.length ∧ s.cap.seg j = .free) →
          t.cap.history.getLast? = some i
          ∧ ∃ f, t.cap.seg i = .complete f
            ∧ f = { seq := seq, trigTime := s.acq.trigTime, wall := if s.link.todSet then some s.link.tod else none
                    q := s.acq.q, forced := s.acq.forced, gen := s.sett.gen, present := p, invalid := inv
                    draw := f.draw, read := false, oldest := s.cap.oldest }
            ∧ (s.rend.pass ≠ none ∨ (s.disp.power ≠ .on ∧ s.disp.power ≠ .dim) → f.draw = false ∧ t.rend = s.rend)
            ∧ (s.rend.pass = none → s.disp.power = .on ∨ s.disp.power = .dim →
                (∀ n, s.rend.lastDrawn = some n → n < seq) →
                f.draw = true ∧ ∃ ps, t.rend = { s.rend with pass := some ps } ∧ ps.seg = i ∧ ps.seq = seq ∧ ps.next = 0))
      ∧ (s.acq.stopPending = true ∨ s.acq.kind = .single →
          t.acq.state = .stopped ∧ t.acq.stopPending = false ∧ t.acq.inFlight = none
          ∧ t.link = (s.link.present (.segment seq s.sett.gen 1)).present (.acqState .stopped
              (if s.acq.stopPending then .stopAtCompletion else .singleDone) .stopped s.acq.kind s.sett.gen seq))
      ∧ (s.acq.stopPending = false → s.acq.kind ≠ .single → s.cap.power = .active → ∀ j, j ≠ i →
          j < s.cap.segs.length → s.cap.seg j = .free → (∀ m, m < j → s.cap.seg m ≠ .free) →
          t.acq = Acq.filling { s.acq with
            seq := seq, inFlight := some j, e := v.e
            q := min (v.len * v.trigPosition.toNat / 1000) (v.len - 1) } s.trig
          ∧ t.cap.seg j = .filling s.sett.vals.enabled (s.sett.vals.enabled.inter (s.chans.unit.map ChanUnit.latch))
          ∧ t.link = s.link.present (.segment seq s.sett.gen 1)))
    ∧ (done → s.acq.seq = 2 ^ 48 - 1 → ∃ t, exec .postTriggerFillComplete s = .next t
      ∧ t.acq.seq = 0 ∧ t.sett = { s.sett with gen := s.sett.gen + 1 } ∧ t.cap.history = []
      ∧ (∀ f, Segment.complete f ∉ t.cap.segs) ∧ t.rend.pass = none ∧ t.rend.lastDrawn = none
      ∧ (∀ a b n, Notice.segment a b n ∈ t.link.notices → Notice.segment a b n ∈ s.link.notices))

/-- R39, R51, R63, R67, R70, R78, R81, R85, R93, R94, R103, R105: how a run goes on. A restart in a running state ends
it for a pending STOP or with no channel enabled, and otherwise takes the run kind afresh and the first segment, or
waits for the memory; either way the detectors are disarmed, the width measurement is none and the auto timer is
stopped, started afresh only where ACQ is READY again at once under AUTO; in STOPPED and CALIBRATING it leaves ACQ
alone. With no FREE segment a SEQUENCE stops, at a completion and at its start; a CONTINUOUS run takes the oldest
segment without a hold, and with none waits in ARMING. The wait ends when a readout, at its close, its last chunk or
its timeout, releases the last hold of a segment, or REND, at the end of a pass (log entry 46) or in a redraw. Where,
at a completion or in a redraw, ACQ asks for the very segment that REND names, either has it, as the free value
Config.holdFirst has it (log entries 52 and 61): REND holds it and ACQ waits; or ACQ fills it, and REND is refused and
examines the history again. KIND_CHANGED and STARTED notices carry ARMING (log entry 15). -/
def Obligations.RunsGoOn : Prop :=
  ∀ s : State,
    let v := s.sett.vals
    let q (w : Settings) : Nat := min (w.len * w.trigPosition.toNat / 1000) (w.len - 1)
    (∀ (tag : Byte) (k : Setting) (b : List Byte) (cond : BitVec 4),
      s.accepts .set tag (BitVec.ofNat 8 k.id :: b) → k.id ≤ 35 ∨ k.id = 58 →
      clampInt (ofLeSigned b) (v.range k).1 (v.range k).2 ≠ v.get k →
      ∃ t, exec (.set tag (BitVec.ofNat 8 k.id :: b) cond) s = .next t
        ∧ (s.acq.state = .stopped ∨ s.acq.state = .calibrating → t.acq = s.acq)
        ∧ (s.acq.state.isRunning = true →
          let w := t.sett.vals
          let kind : RunKind := if s.acq.kind = .single then .single else if w.acqMode = 0 then .continuous else .sequence
          let given : Acq := { s.acq with kind := kind, e := w.e, q := q w }
          let said (n : Notice) : Prop := s.link.mask.getLsbD 5 = true → s.link.sharedUsed < 9 → n ∈ t.link.notices
          let ended : Acq := { s.acq with state := .stopped, stopPending := false, inFlight := none, depth := false }
          let autoUs := 1000 * min 60000 (max 100 ((2 * w.len * w.intervalNs + 999999) / 1000000))
          t.trig.holdoff = none ∧ t.trig.force = false
          ∧ t.trig.rising = false ∧ t.trig.falling = false ∧ t.trig.width = none
          ∧ t.trig.auto = (if t.acq.state = .ready ∧ w.trigMode = 0 then some ⟨autoUs, 0⟩ else none)
          ∧ (s.acq.stopPending = true → t.acq = ended
            ∧ said (.acqState .stopped .request .stopped s.acq.kind (s.sett.gen + 1) s.acq.seq))
          ∧ (s.acq.stopPending = false → w.e = 0 → t.acq = ended
            ∧ said (.acqState .stopped .noChannel .stopped s.acq.kind (s.sett.gen + 1) s.acq.seq))
          ∧ (s.acq.stopPending = false → 0 < w.e →
            (kind ≠ s.acq.kind → said (.acqState .kindChanged .request .arming kind (s.sett.gen + 1) s.acq.seq))
            ∧ (s.cap.power ≠ .active → t.acq = { given with state := .arming, inFlight := none, depth := false })
            ∧ (s.cap.power = .active → 0 < w.kEff →
                t.acq = Acq.filling { given with inFlight := some 0 } { s.trig with holdoff := none, force := false }
                ∧ t.cap.seg 0 = .filling w.enabled (w.enabled.inter (t.chans.unit.map ChanUnit.latch))))))
    ∧ (∀ (i : Nat) (p inv : ChSet), s.acq.state = .fillingPost → s.acq.inFlight = some i → s.cap.seg i = .filling p inv →
      i < s.cap.segs.length → s.cap.awaiting = false → s.cap.len ≤ s.acq.q + 1 + s.cap.post → s.acq.seq < 2 ^ 48 - 1 →
      s.acq.stopPending = false → i ∉ s.cap.history → (∀ j, j < s.cap.segs.length → s.cap.seg j ≠ .free) →
      ∃ t, exec .postTriggerFillComplete s = .next t
        ∧ (s.acq.kind = .sequence →
          t.acq = { s.acq with state := .stopped, seq := s.acq.seq + 1, inFlight := none, depth := false }
          ∧ t.link = (s.link.present (.segment (s.acq.seq + 1) s.sett.gen 1)).present
              (.acqState .stopped .sequenceComplete .stopped .sequence s.sett.gen (s.acq.seq + 1)))
        ∧ (s.acq.kind = .continuous → s.cap.power = .active →
          (∀ pre j post, s.cap.history = pre ++ j :: post → (∀ x ∈ pre, (s.cap.seg x).isUnheld = false) →
            (s.cap.seg j).isUnheld = true →
            t.acq = Acq.filling { s.acq with seq := s.acq.seq + 1, inFlight := some j, e := v.e, q := q v } s.trig
            ∧ t.cap.seg j = .filling v.enabled (v.enabled.inter (s.chans.unit.map ChanUnit.latch))
            ∧ j ∉ t.cap.history ∧ t.cap.waiting = false)
          ∧ ((∀ x ∈ s.cap.history, (s.cap.seg x).isUnheld = false) →
            let wanted := s.rend.pass = none ∧ (s.disp.power = .on ∨ s.disp.power = .dim)
              ∧ ∀ n, s.rend.lastDrawn = some n → n ≤ s.acq.seq
            (wanted → t.races = s.races + 1)
            ∧ (¬ wanted → t.races = s.races ∧ t.rend = s.rend)
            ∧ (wanted → Config.holdFirst s.races = true →
              t.acq = { s.acq with
                state := .arming, seq := s.acq.seq + 1, inFlight := none, e := v.e, q := q v, depth := false }
              ∧ t.cap.waiting = true ∧ t.cap.history = s.cap.history ++ [i]
              ∧ (∃ f, t.cap.seg i = .complete f ∧ f.seq = s.acq.seq + 1 ∧ f.draw = true)
              ∧ ∃ ps, t.rend.pass = some ps ∧ ps.seg = i ∧ ps.seq = s.acq.seq + 1 ∧ ps.next = 0)
            ∧ (¬ wanted ∨ Config.holdFirst s.races = false →
              t.acq = Acq.filling { s.acq with seq := s.acq.seq + 1, inFlight := some i, e := v.e, q := q v } s.trig
              ∧ t.cap.seg i = .filling v.enabled (v.enabled.inter (s.chans.unit.map ChanUnit.latch))
              ∧ t.cap.history = s.cap.history ∧ t.cap.waiting = false)
            ∧ (wanted → Config.holdFirst s.races = false →
              (s.cap.history = [] → t.rend = s.rend)
              ∧ (∀ j g, s.cap.history.getLast? = some j → s.cap.seg j = .complete g → j < s.cap.segs.length →
                ((∃ n, s.rend.lastDrawn = some n ∧ g.seq ≤ n) → t.rend = s.rend ∧ t.cap.seg j = .complete g)
                ∧ ((∀ n, s.rend.lastDrawn = some n → n < g.seq) → t.cap.seg j = .complete { g with draw := true }
                  ∧ ∃ ps, t.rend.pass = some ps ∧ ps.seg = j ∧ ps.seq = g.seq ∧ ps.next = 0))))))
    ∧ (∀ tag : Byte, s.accepts .run tag [] → s.acq.state = .stopped → 0 < v.e → v.acqMode ≠ 0 → s.cap.power = .active →
      (∀ j, j < s.cap.segs.length → s.cap.seg j ≠ .free ∧ (s.cap.seg j).isUnheld = false) →
      ∃ t, exec (.run tag []) s = .next t ∧ t.acq.state = .stopped ∧ t.acq.kind = .sequence ∧ t.acq.base = 0
        ∧ t.link = ((s.link.present (.acqState .started .request .arming .sequence s.sett.gen s.acq.seq)).present
            (.acqState .stopped .sequenceComplete .stopped .sequence s.sett.gen s.acq.seq)).answer 0x14 tag [0, 0])
    ∧ (∀ (tag : Byte) (cur : Cursor) (f : Filed), s.accepts .closeReadout tag [] → s.cap.readout = .opened cur →
      s.cap.idle ≠ none → s.cap.seg cur.seg = .complete f → f.draw = false → cur.seg ∈ s.cap.history →
      cur.seg < s.cap.segs.length → s.acq.state = .arming → s.acq.kind ≠ .sequence → s.cap.waiting = true →
      (∀ j, j < s.cap.segs.length → s.cap.seg j ≠ .free) →
      (∀ j ∈ s.cap.history, j ≠ cur.seg → (s.cap.seg j).isUnheld = false) →
      ∃ t, exec .readoutIdleTimeout s = .next t ∧ exec (.closeReadout tag []) s = .next (t.answered .closeReadout tag [0, 0])
        ∧ t.acq = Acq.filling { s.acq with inFlight := some cur.seg } s.trig
        ∧ t.cap.seg cur.seg = .filling v.enabled (v.enabled.inter (s.chans.unit.map ChanUnit.latch))
        ∧ t.cap.history = s.cap.history.filter (· ≠ cur.seg) ∧ t.cap.readout = .closed ∧ t.cap.idle = none
        ∧ t.cap.waiting = false ∧ t.link = s.link
        ∧ (s.accepts .readChunk tag [] → cur.remaining ≤ 512 → s.cap.fits cur.seg f.present f.q = true →
          let samples := (List.range cur.remaining).map fun k =>
            let r := cur.next + k * cur.stride
            s.cap.mem.read (s.cap.addr cur.seg f.present cur.ch (if r < f.q then (f.oldest + r) % f.q else r))
          exec (.readChunk tag []) s
            = .next (t.answered .readChunk tag ([0, 1] ++ leBytes 2 cur.remaining ++ samples))))
    ∧ (∀ (ps : Pass) (f : Filed), s.rend.pass = some ps → s.cap.seg ps.seg = .complete f → f.read = false →
      ps.seg ∈ s.cap.history → ps.seg < s.cap.segs.length → s.acq.state = .arming → s.acq.kind ≠ .sequence →
      s.cap.waiting = true → (∀ j, j < s.cap.segs.length → s.cap.seg j ≠ .free) →
      (∀ j ∈ s.cap.history, j ≠ ps.seg → (s.cap.seg j).isUnheld = false) →
      let others := s.cap.history.filter (· ≠ ps.seg)
      let lit := s.disp.power = .on ∨ s.disp.power = .dim
      let taken (t : State) : Prop := t.acq = Acq.filling { s.acq with inFlight := some ps.seg } s.trig
        ∧ t.cap.seg ps.seg = .filling v.enabled (v.enabled.inter (s.chans.unit.map ChanUnit.latch))
        ∧ t.cap.history = others ∧ t.cap.waiting = false ∧ t.cap.mem = s.cap.mem ∧ t.cap.readout = s.cap.readout
        ∧ t.chans = s.chans ∧ t.disp = s.disp ∧ t.sett.gen = s.sett.gen
        ∧ (¬ lit ∨ others = [] → t.rend.pass = none)
      let begins (t : State) (i : Nat) (g : Filed) : Prop :=
        ∃ ps', t.rend.pass = some ps' ∧ ps'.seg = i ∧ ps'.seq = g.seq ∧ ps'.next = 0
          ∧ t.cap.seg i = .complete { g with draw := true }
      let newest (i : Nat) (g : Filed) : Prop :=
        others.getLast? = some i ∧ s.cap.seg i = .complete g ∧ i < s.cap.segs.length
      (s.cap.power = .active → ps.next = 639 → s.cap.fits ps.seg f.present f.q = true →
        ∃ t, exec .drawColumn s = .next t ∧ taken t ∧ t.sett = s.sett ∧ t.link = s.link ∧ t.rend.lastDrawn = some ps.seq
          ∧ (∀ i g, newest i g → g.seq ≤ ps.seq → t.rend.pass = none)
          ∧ (∀ i g, newest i g → ps.seq < g.seq → lit → begins t i g))
      ∧ (∀ (tag : Byte) (k : Setting) (b : List Byte) (cond : BitVec 4),
        s.accepts .set tag (BitVec.ofNat 8 k.id :: b) → 64 ≤ k.id → k.id ≤ 71 →
        clampInt (ofLeSigned b) (v.range k).1 (v.range k).2 ≠ v.get k →
        let wanted := lit ∧ s.cap.history.getLast? = some ps.seg
        ∃ t, exec (.set tag (BitVec.ofNat 8 k.id :: b) cond) s = .next t ∧ t.rend.lastDrawn = none
          ∧ t.races = (if wanted then s.races + 1 else s.races)
          ∧ (¬ wanted ∨ Config.holdFirst s.races = false → taken t ∧ ∀ i g, newest i g → lit → begins t i g)
          ∧ (wanted → Config.holdFirst s.races = true → begins t ps.seg f ∧ t.acq = s.acq ∧ t.trig = s.trig
              ∧ t.cap.waiting = true ∧ t.cap.history = s.cap.history ∧ t.cap.mem = s.cap.mem
              ∧ t.cap.readout = s.cap.readout ∧ t.chans = s.chans ∧ t.disp = s.disp ∧ t.sett.gen = s.sett.gen)))

/-! ## Capture memory: readout and power -/

/-- R84, R85, R87, R88: OPEN_READOUT's checks in their order, the limit on the count, the READOUT hold, and the reply
at once with the memory ACTIVE or deferred behind the wake; READ_CHUNK by the readout state. An OPEN readout serves up
to 512 samples in record-index order, the pre-trigger part in age order, and closes with the last; CAP then examines
the conditions of R89. The replies NOT_FOUND, BAD_VALUE and ABANDONED have one byte (log entry 17). A last chunk while
ACQ waits for a segment is RunsGoOn's. -/
def Obligations.ReadoutRequests : Prop :=
  (∀ (s : State) (tag : Byte) (body : List Byte), s.accepts .openReadout tag body →
      let seq := ofLe (body.take 6)
      let chan := (body.getD 6 0).toNat
      let start := ofLe ((body.drop 7).take 4)
      let count := ofLe ((body.drop 11).take 4)
      let stride := ofLe ((body.drop 15).take 2)
      let c : Instr := .openReadout tag body
      (s.cap.readout.isOpen = true → exec c s = .next (s.answered .openReadout tag [6]))
      ∧ (s.cap.readout.isOpen = false →
        (chan = 0 ∨ 4 < chan → exec c s = .next (s.answered .openReadout tag [4]))
        ∧ (∀ ch : Channel, ch.num = chan →
          ((∀ i f, i ∈ s.cap.history → s.cap.seg i = .complete f → f.seq ≠ seq) →
            exec c s = .next (s.answered .openReadout tag [8]))
          ∧ (∀ i f, s.cap.completed.find? (fun x => x.2.seq == seq) = some (i, f) →
            (f.present.get ch = false ∨ s.cap.len ≤ start ∨ stride = 0 ∨ 1024 < stride ∨ count = 0 →
              exec c s = .next (s.answered .openReadout tag [4]))
            ∧ (f.present.get ch = true → start < s.cap.len → 1 ≤ stride → stride ≤ 1024 → 1 ≤ count →
              let limit := (s.cap.len - 1 - start) / stride + 1
              let n := min count limit
              let status : Status := if limit < count then .clamped else .ok
              let held := s.cap.putSeg i (.complete { f with read := true })
              (s.cap.power = .active → exec c s = .next ((s.setCap { held with
                  readout := .opened ⟨i, ch, start, stride, n⟩, idle := some ⟨2000000, 0⟩ }).answered .openReadout tag
                    ([status.code] ++ leBytes 6 f.seq ++ leBytes 2 i ++ [BitVec.ofNat 8 ch.num] ++ leBytes 4 start
                      ++ leBytes 4 n ++ leBytes 2 stride ++ leBytes 4 f.q ++ leBytes 6 f.trigTime.toNat
                      ++ [if f.wall.isSome then 1 else 0] ++ leBytes 4 (f.wall.getD 0).toNat
                      ++ [if f.forced then 1 else 0, if f.invalid.get ch then 1 else 0] ++ leBytes 2 f.gen.toNat)))
              ∧ (s.cap.power ≠ .active → exec c s = .next ((s.entered .openReadout tag).setCap { held with
                  readout := .opening ⟨i, ch, start, stride, n⟩ tag status [], power := .waking })))))))
  ∧ ∀ (s : State) (tag : Byte), s.accepts .readChunk tag [] →
      let c : Instr := .readChunk tag []
      (s.cap.readout = .closed → exec c s = .next (s.answered .readChunk tag [5, 7]).examineMemory)
      ∧ (s.cap.readout = .abandoned → exec c s
          = .next ((s.setCap { s.cap with readout := .closed }).answered .readChunk tag [11]).examineMemory)
      ∧ (∀ cur t st w, s.cap.readout = .opening cur t st w → exec c s
          = .next ((s.entered .readChunk tag).setCap { s.cap with readout := .opening cur t st (w ++ [tag]) }))
      ∧ (∀ cur f, s.cap.readout = .opened cur → s.cap.seg cur.seg = .complete f →
          s.cap.fits cur.seg f.present f.q = true →
          let n := min 512 cur.remaining
          let samples := (List.range n).map fun k =>
            let r := cur.next + k * cur.stride
            s.cap.mem.read (s.cap.addr cur.seg f.present cur.ch (if r < f.q then (f.oldest + r) % f.q else r))
          (512 < cur.remaining → exec c s = .next ((s.setCap { s.cap with
              readout := .opened { cur with next := cur.next + 512 * cur.stride, remaining := cur.remaining - 512 }
              idle := some ⟨2000000, 0⟩ }).answered .readChunk tag ([0, 0] ++ leBytes 2 512 ++ samples)))
          ∧ (cur.remaining ≤ 512 → s.cap.waiting = false → exec c s = .next ((s.setCap
              { s.cap.putSeg cur.seg (.complete { f with read := false }) with readout := .closed, idle := none }).answered
                .readChunk tag ([0, 1] ++ leBytes 2 n ++ samples)).examineMemory))

/-- R63, R64, R84, R85, R86, R87, R90: CLOSE_READOUT by the readout state, and the idle timeout of an OPEN readout. A
readout that was OPENING ends with its own reply, ABANDONED (one byte, log entry 17), and those of the waiting
READ_CHUNKs before that of the CLOSE_READOUT. At the end of a wake the memory is ACTIVE; ACQ, waiting in ARMING, is
given the lowest free segment, or a readout that waited becomes OPEN and is answered; with nothing to keep it awake
the memory returns to RETENTION. An idle timeout with no OPEN readout and a wake's end outside WAKING change nothing
(log entry 7). The READ_CHUNKs that wait behind the wake are served after the OPEN_READOUT reply, in their order, as
by READ_CHUNK itself; ACQ in ARMING is given its segment before them (log entry 38). -/
def Obligations.ReadoutEndsAndWake : Prop :=
  (∀ (s : State) (tag : Byte), s.accepts .closeReadout tag [] →
      let c : Instr := .closeReadout tag []
      (s.cap.readout = .closed → exec c s = .next (s.answered .closeReadout tag [0, 1]))
      ∧ (s.cap.readout = .abandoned →
          exec c s = .next ((s.setCap { s.cap with readout := .closed }).answered .closeReadout tag [0, 2]))
      ∧ (∀ cur f, s.cap.readout = .opened cur → s.cap.seg cur.seg = .complete f → s.cap.waiting = false →
          let closed := s.setCap
            { s.cap.putSeg cur.seg (.complete { f with read := false }) with readout := .closed, idle := none }
          exec c s = .next (closed.answered .closeReadout tag [0, 0]).examineMemory
          ∧ (s.cap.idle ≠ none → exec .readoutIdleTimeout s = .next closed.examineMemory))
      ∧ (∀ cur f t st w, s.cap.readout = .opening cur t st w → s.cap.seg cur.seg = .complete f → s.cap.waiting = false →
          s.owedOk = true → (⟨t, .openReadout⟩ : PendingReq) ∈ s.link.table →
          (∀ x ∈ w, (⟨x, .readChunk⟩ : PendingReq) ∈ s.link.table) → ∃ t', exec c s = .next t'
            ∧ t'.link.replies = s.link.replies ++ [⟨0x9D, t, [11]⟩] ++ w.map (fun x => ⟨0x9E, x, [5, 7]⟩)
                ++ [⟨0x9F, tag, [0, 0]⟩]
            ∧ t'.cap.readout = .closed ∧ t'.cap.seg cur.seg = .complete { f with read := false } ∧ t'.acq = s.acq)
      ∧ ((∀ cur, s.cap.readout ≠ .opened cur) → exec .readoutIdleTimeout s = .next s))
  ∧ ∀ s : State,
      (s.cap.power ≠ .waking → exec .memoryWakeEnd s = .next s)
      ∧ (s.cap.power = .waking →
        let awake := s.setCap { s.cap with power := .active }
        let closed := ∀ c t st w, s.cap.readout ≠ .opening c t st w
        (s.acq.state ≠ .arming → closed → exec .memoryWakeEnd s = .next awake.examineMemory)
        ∧ (s.acq.state = .arming → closed → ∀ i, i < s.cap.segs.length → s.cap.seg i = .free →
            (∀ j, j < i → s.cap.seg j ≠ .free) → ∃ t, exec .memoryWakeEnd s = .next t ∧ t.cap.power = .active
              ∧ t.acq = Acq.filling { s.acq with inFlight := some i } s.trig
              ∧ t.cap.seg i = .filling s.sett.vals.enabled
                  (s.sett.vals.enabled.inter (s.chans.unit.map ChanUnit.latch))
              ∧ t.link = s.link ∧ t.sett = s.sett ∧ t.chans = s.chans ∧ t.rend = s.rend ∧ t.disp = s.disp)
        ∧ (∀ cur tag st f, s.acq.state ≠ .arming → s.cap.readout = .opening cur tag st [] →
            s.cap.seg cur.seg = .complete f →
            s.link.table.find? (fun p => p.tag = tag) = some ⟨tag, .openReadout⟩ → ∃ t, exec .memoryWakeEnd s = .next t
              ∧ t.cap = { s.cap with power := .active, readout := .opened cur, idle := some ⟨2000000, 0⟩ }
              ∧ t.link.replies = s.link.replies ++ [⟨0x9D, tag, f.readoutBody st cur⟩]
              ∧ t.acq = s.acq ∧ t.sett = s.sett ∧ t.chans = s.chans ∧ t.rend = s.rend ∧ t.disp = s.disp)
        ∧ (∀ cur tag st w f, s.cap.readout = .opening cur tag st w → s.cap.seg cur.seg = .complete f → f.read = true →
            s.cap.fits cur.seg f.present f.q = true → 0 < cur.remaining → s.owedOk = true →
            (⟨tag, .openReadout⟩ : PendingReq) ∈ s.link.table →
            (∀ x ∈ w, (⟨x, .readChunk⟩ : PendingReq) ∈ s.link.table) →
            let chunk (k : Nat) : List Byte :=
              if cur.remaining ≤ 512 * k then [5, 7]
              else
                let n := min 512 (cur.remaining - 512 * k)
                [0, if cur.remaining ≤ 512 * (k + 1) then 1 else 0] ++ leBytes 2 n ++ (List.range n).map fun m =>
                  let r := cur.next + (512 * k + m) * cur.stride
                  s.cap.mem.read (s.cap.addr cur.seg f.present cur.ch (if r < f.q then (f.oldest + r) % f.q else r))
            ∃ t, exec .memoryWakeEnd s = .next t
              ∧ t.link.replies = s.link.replies ++ [⟨0x9D, tag, f.readoutBody st cur⟩]
                  ++ (List.range w.length).map (fun k => (⟨0x9E, w.getD k 0, chunk k⟩ : Reply))
              ∧ t.cap.mem = s.cap.mem ∧ t.sett = s.sett ∧ t.chans = s.chans ∧ t.rend = s.rend ∧ t.disp = s.disp
              ∧ (512 * w.length < cur.remaining → t.cap.idle = some ⟨2000000, 0⟩ ∧ t.cap.power = .active
                  ∧ t.cap.seg cur.seg = .complete f ∧ t.cap.readout = .opened { cur with
                      next := cur.next + 512 * w.length * cur.stride, remaining := cur.remaining - 512 * w.length })
              ∧ (cur.remaining ≤ 512 * w.length → t.cap.readout = .closed ∧ t.cap.idle = none
                  ∧ (s.cap.waiting = false → s.acq.state ≠ .arming →
                      t.cap.seg cur.seg = .complete { f with read := false }))
              ∧ (s.acq.state ≠ .arming → s.cap.waiting = false → t.acq = s.acq)
              ∧ (s.acq.state = .arming → ∀ i, i < s.cap.segs.length → s.cap.seg i = .free →
                  (∀ j, j < i → s.cap.seg j ≠ .free) → t.acq = Acq.filling { s.acq with inFlight := some i } s.trig)))

/-! ## Drawing and persistence -/

/-- R95 to R104: one column of a pass. Each drawn channel's rows of the column receive a hit, which adds H and stops at
255: in ENVELOPE style those of the connected span between the rows of the largest and the smallest code, in DOTS style
that of the first sample. Every other count stands. The last column ends the pass. -/
def Obligations.DrawColumn : Prop :=
  ∀ (s : State) (ps : Pass) (f : Filed),
    s.rend.pass = some ps → s.cap.power = .active → s.cap.seg ps.seg = .complete f →
    s.cap.fits ps.seg f.present f.q = true → ps.next < 640 → (∀ ch, (s.rend.maps.get ch).wf = true) →
    let first := ps.s + ps.next * ps.w / 640
    let count := ps.s + (ps.next + 1) * ps.w / 640 - first
    let code (ch : Channel) (r : Nat) : Int :=
      (s.cap.mem.read (s.cap.addr ps.seg f.present ch (if r < f.q then (f.oldest + r) % f.q else r))).toNat
    let row (ch : Channel) (r : Nat) : Int := 199 - ((code ch r - 128 + ps.d.get ch) * 25 + 16 * ps.p.get ch) / 16
    ∃ t, exec .drawColumn s = .next t
      ∧ (∀ ch c r, c < 640 → r < 400 → c ≠ ps.next ∨ ps.drawn.get ch = false →
          (t.rend.maps.get ch).read (r * 640 + c) = (s.rend.maps.get ch).read (r * 640 + c))
      ∧ (∀ ch, ps.drawn.get ch = true →
          let hit (on : Nat → Prop) : Prop := ∀ r, r < 400 →
            (on r → ((t.rend.maps.get ch).read (r * 640 + ps.next)).toNat
              = min 255 (((s.rend.maps.get ch).read (r * 640 + ps.next)).toNat + ps.h))
            ∧ (¬ on r → (t.rend.maps.get ch).read (r * 640 + ps.next) = (s.rend.maps.get ch).read (r * 640 + ps.next))
          (ps.style ≠ 0 → hit fun r => (r : Int) = row ch first)
          ∧ (ps.style = 0 → ∀ hi lo : Int,
              (∃ k, k < count ∧ row ch (first + k) = hi) → (∃ k, k < count ∧ row ch (first + k) = lo) →
              (∀ k, k < count → hi ≤ row ch (first + k) ∧ row ch (first + k) ≤ lo) →
              (ps.next = 0 → hit fun r => hi ≤ r ∧ r ≤ lo)
              ∧ (∀ pHi pLo, ps.next ≠ 0 → ps.span.get ch = some (pHi, pLo) →
                  (lo < pHi - 1 → hit fun r => hi ≤ r ∧ r ≤ pHi - 1)
                  ∧ (pHi - 1 ≤ lo → pLo + 1 < hi → hit fun r => pLo + 1 ≤ r ∧ r ≤ lo)
                  ∧ (pHi - 1 ≤ lo → hi ≤ pLo + 1 → hit fun r => hi ≤ r ∧ r ≤ lo))
              ∧ (ps.next < 639 → ∃ ps', t.rend.pass = some ps' ∧ ps'.span.get ch = some (hi, lo))))
      ∧ (ps.next < 639 → t = s.setRend t.rend ∧ t.rend.lastDrawn = s.rend.lastDrawn ∧ t.rend.above = s.rend.above
          ∧ t.rend.below = s.rend.below ∧ ∃ ps', t.rend.pass = some ps'
            ∧ ps' = { ps with next := ps.next + 1, span := ps'.span, above := ps'.above, below := ps'.below })
      ∧ (ps.next = 639 → s.cap.waiting = false → t.rend.lastDrawn = some ps.seq
          ∧ (∀ ch, ps.drawn.get ch = false → t.rend.above.get ch = false ∧ t.rend.below.get ch = false)
          ∧ (∀ ch, ps.drawn.get ch = true → (ps.above.get ch = true → t.rend.above.get ch = true)
              ∧ (ps.below.get ch = true → t.rend.below.get ch = true))
          ∧ ((∀ i g, s.cap.history.getLast? = some i → s.cap.seg i = .complete g → g.seq ≤ ps.seq) →
              t.rend.pass = none ∧ t.cap.seg ps.seg = .complete { f with draw := false })
          ∧ t.link = s.link ∧ t.acq = s.acq ∧ t.sett = s.sett ∧ t.chans = s.chans ∧ t.disp = s.disp)

/-- R99, R100, R104, R110, R112 to R116, R129, R150: what a column finds out of range, and what is shown. A column
adds to what the pass has found of each drawn channel whether its connected span, or its dot, lies wholly above row 0
or wholly below row 399; after the last column these findings are the marks, and a channel not drawn has none. A frame
event's picture gives every pixel of the screen by the first case of Table 7-1, from the intensity maps before
persistence; the glyph shapes are free values (log entry 19) and the cells of no field are white (log entry 47). The
status strip holds the text of Table 7-2. The backlight runs at the level of the power state, and a lit lamp at the
lamp brightness, halved in DIM, by the one lamp clock (log entry 29). -/
def Obligations.FindingsAndPicture : Prop :=
  (∀ (s : State) (ps : Pass) (f : Filed),
    s.rend.pass = some ps → s.cap.power = .active → s.cap.seg ps.seg = .complete f →
    s.cap.fits ps.seg f.present f.q = true → ps.next < 640 →
    let first := ps.s + ps.next * ps.w / 640
    let count := ps.s + (ps.next + 1) * ps.w / 640 - first
    let code (ch : Channel) (r : Nat) : Int :=
      (s.cap.mem.read (s.cap.addr ps.seg f.present ch (if r < f.q then (f.oldest + r) % f.q else r))).toNat
    let row (ch : Channel) (r : Nat) : Int := 199 - ((code ch r - 128 + ps.d.get ch) * 25 + 16 * ps.p.get ch) / 16
    ∃ (t : State) (above below : ChSet), exec .drawColumn s = .next t
      ∧ (ps.next < 639 → ∃ ps', t.rend.pass = some ps' ∧ ps'.above = above ∧ ps'.below = below)
      ∧ (ps.next = 639 → ∀ ch, t.rend.above.get ch = (ps.drawn.get ch && above.get ch)
          ∧ t.rend.below.get ch = (ps.drawn.get ch && below.get ch))
      ∧ (∀ ch, ps.drawn.get ch = false → above.get ch = ps.above.get ch ∧ below.get ch = ps.below.get ch)
      ∧ (∀ ch, ps.drawn.get ch = true →
        let finds (hi lo : Int) : Prop := above.get ch = (ps.above.get ch || decide (lo < 0))
          ∧ below.get ch = (ps.below.get ch || decide (399 < hi))
        (ps.style ≠ 0 → finds (row ch first) (row ch first))
        ∧ (ps.style = 0 → ∀ hi lo : Int,
          (∃ k, k < count ∧ row ch (first + k) = hi) → (∃ k, k < count ∧ row ch (first + k) = lo) →
          (∀ k, k < count → hi ≤ row ch (first + k) ∧ row ch (first + k) ≤ lo) →
          (ps.next = 0 → finds hi lo)
          ∧ (∀ pHi pLo, ps.next ≠ 0 → ps.span.get ch = some (pHi, pLo) →
            (lo < pHi - 1 → finds hi (pHi - 1))
            ∧ (pHi - 1 ≤ lo → pLo + 1 < hi → finds (pLo + 1) lo)
            ∧ (pHi - 1 ≤ lo → hi ≤ pLo + 1 → finds hi lo)))))
  ∧ (∀ s : State, s.disp.power = .on ∨ s.disp.power = .dim →
    ∃ t pic, exec .frameEvent s = .next t ∧ t.disp.shown = .picture pic ∧ ∀ x y : Nat, x < 800 → y < 480 →
      let cell := x / 8
      let ink : Rgb := if 7 ≤ cell ∧ cell ≤ 22 then ⟨255, 255, 0⟩ else if 23 ≤ cell ∧ cell ≤ 38 then ⟨0, 255, 255⟩
        else if 39 ≤ cell ∧ cell ≤ 54 then ⟨255, 0, 255⟩ else if 55 ≤ cell ∧ cell ≤ 70 then ⟨0, 255, 0⟩
        else ⟨255, 255, 255⟩
      let index := t.disp.front.read (y * 800 + x)
      let grid := 80 ≤ x ∧ x ≤ 719 ∧ 40 ≤ y ∧ y ≤ 439
      let c := x - 80
      let r := y - 40
      let count (ch : Channel) : Nat := ((s.rend.maps.get ch).read (r * 640 + c)).toNat
      let full := c % 64 = 0 ∨ c = 639 ∨ r % 50 = 0 ∨ r = 399 ∨ (198 ≤ r ∧ r ≤ 202 ∧ c % 8 = 0)
        ∨ (318 ≤ c ∧ c ≤ 322 ∧ r % 10 = 0)
      let lines := (s.sett.vals.graticule = 0 ∧ full) ∨ (s.sett.vals.graticule = 1 ∧ (c = 320 ∨ r = 200))
      (y < 24 → pic.pixel x y = if 4 ≤ y ∧ y ≤ 19 ∧ Config.glyph (s.strip.getD cell ' ').toNat (x % 8) (y - 4) = true
        then ink else ⟨0, 0, 0⟩)
      ∧ (24 ≤ y → ∀ colour, index ≠ 0 → s.disp.palette[index.toNat - 1]? = some colour → pic.pixel x y = colour)
      ∧ (24 ≤ y → index = 0 →
        (grid → ∀ ch, 0 < count ch → (∀ ch', ch'.num < ch.num → count ch' = 0) →
          let shade : Byte := BitVec.ofNat 8 (64 + count ch * 191 / 255)
          pic.pixel x y = match ch with
            | .ch1 => ⟨shade, shade, 0⟩ | .ch2 => ⟨0, shade, shade⟩ | .ch3 => ⟨shade, 0, shade⟩ | .ch4 => ⟨0, shade, 0⟩)
        ∧ (grid → (∀ ch, count ch = 0) → lines → pic.pixel x y = ⟨80, 80, 80⟩)
        ∧ (grid → (∀ ch, count ch = 0) → ¬ lines → pic.pixel x y = ⟨0, 0, 0⟩)
        ∧ (¬ grid → pic.pixel x y = ⟨0, 0, 0⟩)))
  ∧ ∀ s : State,
    let v := s.sett.vals
    let at_ (i : Nat) : Char := s.strip.getD i ' '
    let shows (i n : Nat) (text : List Char) : Prop := ∀ j, j < n → at_ (i + j) = text.getD j ' '
    let level := roundAway v.trigLevel 1000
    let lit (l : Lamp) : Prop := s.lampShown l = .on ∨ (s.lampShown l = .slow ∧ s.clock / 500000 % 2 = 0)
      ∨ (s.lampShown l = .fast ∧ s.clock / 125000 % 2 = 0)
    s.strip.length = 100 ∧ at_ 6 = ' ' ∧ at_ 71 = ' ' ∧ at_ 89 = ' '
      ∧ shows 0 6 (match s.acq.state with
        | .stopped => "STOP" | .arming => "ARMING" | .fillingPre => "ARMING" | .ready => "READY" | .calibrating => "CAL"
        | .fillingPost => if s.trig.lastForced = Forced.byAuto then "AUTO" else "TRIG'D").toList
      ∧ (∀ ch : Channel, let base := 7 + 16 * (ch.num - 1)
        at_ base = "1234".toList.getD (ch.num - 1) ' ' ∧ at_ (base + 1) = ' ' ∧ at_ (base + 7) = ' ' ∧ at_ (base + 12) = ' '
        ∧ shows (base + 2) 5 (if v.scaleMv ch < 1000 then Nat.toDigits 10 (v.scaleMv ch) ++ "mV".toList
            else Nat.toDigits 10 (v.scaleMv ch / 1000) ++ "V".toList)
        ∧ shows (base + 8) 4 (if s.chanState ch = .off then "OFF" else if s.chanState ch = .isProtected then "PROT"
            else "").toList
        ∧ at_ (base + 13) = (if (s.chans.unit.get ch).cal = .stale then '~' else ' ')
        ∧ at_ (base + 14) = (if s.rend.above.get ch then '^' else ' ')
        ∧ at_ (base + 15) = (if s.rend.below.get ch then 'v' else ' '))
      ∧ shows 72 17 ("T ".toList ++ (match v.source with
          | some ch => "CH".toList ++ Nat.toDigits 10 ch.num | none => "EXT".toList) ++ [' ']
          ++ [if level < 0 then '-' else '+'] ++ Nat.toDigits 10 level.natAbs ++ "mV".toList
          ++ (if s.trig.limited then ['!'] else []))
      ∧ shows 90 10 ((if s.auth.set = ⟨true, true, true, true⟩ then "LOCAL" else "REMOTE").toList
          ++ (if s.auth.state = .requested then " REQ" else "").toList)
      ∧ s.backlight = (if s.disp.power = .on then s.disp.onLevel else if s.disp.power = .dim then s.disp.dimLevel else 0)
      ∧ (∀ l, lit l → s.lampSlots l = if s.disp.power = .dim then s.panel.brightness / 2 else s.panel.brightness)
      ∧ (∀ l, ¬ lit l → s.lampSlots l = 0)

/-- R106, R109, R119 to R124, R126: CLEAR_PERSIST clears the maps and nothing else. A frame event makes a waiting
flip, scans out the picture, with the maps as they stand, and then applies the persistence mode to every count.
END_BATCH flips at once in the dark, when it is alone in the queue and no plane sync runs; lit, or behind a sync, it
waits with its reply deferred. At sync complete the back plane is a copy of the front (log entry 32); the drawing
commands that waited behind the sync, or behind the flip that began it, are carried out on it in their order, up to an
END_BATCH, which flips if the panel is dark and otherwise waits. A frame event in the dark and a sync complete with no
sync change nothing (log entry 7). The glyphs are free values (log entry 19), and a box is filled with index 0 too
(log entry 39). -/
def Obligations.FramesAndFlips : Prop :=
  (∀ (s : State) (tag : Byte),
      (s.accepts .clearPersist tag [] → exec (.clearPersist tag []) s
        = .next ((s.setRend { s.rend with maps := ⟨[], [], [], []⟩ }).answered .clearPersist tag [0]))
      ∧ (s.disp.power ≠ .on → s.disp.power ≠ .dim → exec .frameEvent s = .next s)
      ∧ (s.disp.power = .on ∨ s.disp.power = .dim → ∃ t, exec .frameEvent s = .next t
        ∧ (∃ pic, t.disp.shown = .picture pic ∧ pic.maps = s.rend.maps ∧ pic.front = t.disp.front
            ∧ pic.palette = s.disp.palette ∧ pic.graticule = s.sett.vals.graticule ∧ pic.strip = s.strip)
        ∧ t.rend = { s.rend with maps := t.rend.maps }
        ∧ (s.sett.vals.persistMode = 0 → t.rend.maps = ⟨[], [], [], []⟩)
        ∧ (s.sett.vals.persistMode = 1 → ∀ ch a, (s.rend.maps.get ch).wf = true →
            ((t.rend.maps.get ch).read a).toNat
              = ((s.rend.maps.get ch).read a).toNat * (256 - s.sett.vals.persistDecay.toNat) / 256)
        ∧ (s.sett.vals.persistMode = 2 → t.rend.maps = s.rend.maps)
        ∧ (∀ g r, s.disp.queue = .endBatch g :: r → s.disp.sync = false →
            t.disp = { s.disp with frontA := !s.disp.frontA, queue := r, sync := true, shown := t.disp.shown }
            ∧ (s.link.table.find? (fun p => p.tag = g) = some ⟨g, .endBatch⟩ →
                t.link.replies = s.link.replies ++ [⟨0xA4, g, [0]⟩]))
        ∧ ((∀ g r, s.disp.queue ≠ .endBatch g :: r) ∨ s.disp.sync = true →
            t.disp = { s.disp with shown := t.disp.shown } ∧ t.link = s.link)
        ∧ t.sett = s.sett ∧ t.chans = s.chans ∧ t.trig = s.trig ∧ t.acq = s.acq ∧ t.cap = s.cap ∧ t.panel = s.panel
        ∧ t.auth = s.auth ∧ t.store = s.store))
  ∧ ∀ (s : State) (tag : Byte),
      (s.accepts .endBatch tag [] →
        (32 ≤ s.disp.queue.length → exec (.endBatch tag []) s = .next (s.answered .endBatch tag [7]))
        ∧ (s.disp.queue = [] → s.disp.sync = false → s.disp.power.isLit = false → exec (.endBatch tag []) s
            = .next ((s.setDisp { s.disp with frontA := !s.disp.frontA, sync := true }).answered .endBatch tag [0]))
        ∧ (s.disp.queue.length < 32 → s.disp.sync = true ∨ (s.disp.queue = [] ∧ s.disp.power.isLit = true) →
            exec (.endBatch tag []) s
            = .next ((s.entered .endBatch tag).setDisp { s.disp with queue := s.disp.queue ++ [.endBatch tag] })))
      ∧ (s.disp.sync = false → exec .planeSyncComplete s = .next s)
      ∧ (s.disp.sync = true →
        let synced : Disp := { s.disp with planeA := s.disp.front, planeB := s.disp.front, sync := false }
        (s.disp.queue = [] → exec .planeSyncComplete s = .next (s.setDisp synced))
        ∧ (∀ g r, s.disp.queue = .endBatch g :: r →
          (s.disp.power.isLit = true → exec .planeSyncComplete s = .next (s.setDisp synced))
          ∧ (s.disp.power.isLit = false → s.link.table.find? (fun p => p.tag = g) = some ⟨g, .endBatch⟩ →
            ∃ t, exec .planeSyncComplete s = .next t
              ∧ t.disp = { synced with frontA := !s.disp.frontA, queue := r, sync := true }
              ∧ t.link.replies = s.link.replies ++ [⟨0xA4, g, [0]⟩])))
      ∧ (s.disp.sync = true → s.disp.front.wf = true → ∀ cmds rest : List Overlay, s.disp.queue = cmds ++ rest →
        (∀ c ∈ cmds, (∀ g, c ≠ .endBatch g) ∧ ∀ x y w h runs, c = .putPixels x y w h runs →
          (runs.map Prod.fst).sum = w * h) →
        (rest = [] ∨ ∃ g r, rest = .endBatch g :: r) →
        let sets (px py : Nat) (old : Byte) (c : Overlay) : Byte := match c with
          | .fillRect x y w h index => if x ≤ px ∧ px < x + w ∧ y ≤ py ∧ py < y + h then index else old
          | .putText x y text ground chars =>
            if x ≤ px ∧ px < x + 8 * chars.length ∧ y ≤ py ∧ py < y + 16 then
              let at_ := (px - x).toNat
              let code := (chars.getD (at_ / 8) 0).toNat
              if code < 0x20 ∨ 0x7E < code then text
              else if Config.glyph code (at_ % 8) (py - y).toNat then (if text = 0 then old else text)
              else (if ground = 0 then old else ground)
            else old
          | .putPixels x y w h runs =>
            if x ≤ px ∧ px < x + w ∧ y ≤ py ∧ py < y + h then
              (runs.flatMap fun r => List.replicate r.1 r.2).getD ((py - y).toNat * w + (px - x).toNat) 0
            else old
          | .endBatch _ => old
        let flips : Bool := !rest.isEmpty && !s.disp.power.isLit
        ∃ t, exec .planeSyncComplete s = .next t
          ∧ (∀ px py : Nat, px < 800 → py < 480 →
            (if flips then t.disp.front else t.disp.back).read (py * 800 + px)
                = cmds.foldl (sets px py) (s.disp.front.read (py * 800 + px))
            ∧ (if flips then t.disp.back else t.disp.front).read (py * 800 + px) = s.disp.front.read (py * 800 + px))
          ∧ t.disp = { s.disp with
              planeA := t.disp.planeA, planeB := t.disp.planeB, sync := flips
              frontA := if flips then !s.disp.frontA else s.disp.frontA, queue := if flips then rest.tail else rest }
          ∧ (flips = false → t.link = s.link)
          ∧ (∀ g, flips = true → rest.head? = some (.endBatch g) →
              s.link.table.find? (fun p => p.tag = g) = some ⟨g, .endBatch⟩ →
              t.link.replies = s.link.replies ++ [⟨0xA4, g, [0]⟩])
          ∧ t.sett = s.sett ∧ t.chans = s.chans ∧ t.trig = s.trig ∧ t.acq = s.acq ∧ t.cap = s.cap ∧ t.rend = s.rend
          ∧ t.panel = s.panel ∧ t.auth = s.auth ∧ t.store = s.store)

/-! ## Overlay and display -/

/-- R119, R120: FILL_RECT is refused for an index above 15 and with 32 commands queued; behind a plane sync or a
waiting flip it is queued; otherwise it is carried out: the pixels of the rectangle on the screen take the index in
the back plane, and every other pixel stands. R122: PUT_PIXELS, queued in the same cases, lays its runs out in row
order over the rectangle; each pixel on the screen takes its run's index. -/
def Obligations.FillRectAndPixels : Prop :=
  ∀ (s : State) (tag : Byte) (body : List Byte),
    (s.accepts .fillRect tag body →
      let x := ofLeSigned (body.take 2)
      let y := ofLeSigned ((body.drop 2).take 2)
      let w := ofLe ((body.drop 4).take 2)
      let h := ofLe ((body.drop 6).take 2)
      let index := body.getD 8 0
      let c : Instr := .fillRect tag body
      (15 < index.toNat → exec c s = .next (s.answered .fillRect tag [4]))
      ∧ (index.toNat ≤ 15 →
        (32 ≤ s.disp.queue.length → exec c s = .next (s.answered .fillRect tag [7]))
        ∧ (s.disp.queue.length < 32 →
            s.disp.sync = true ∨ (s.disp.power.isLit = true ∧ ∃ g r, s.disp.queue = .endBatch g :: r) →
            exec c s = .next ((s.setDisp { s.disp with queue := s.disp.queue ++ [.fillRect x y w h index] }).answered
              .fillRect tag [0]))
        ∧ (s.disp.queue = [] → s.disp.sync = false → s.disp.back.wf = true → ∃ t, exec c s = .next t
            ∧ t = (s.setDisp t.disp).answered .fillRect tag [0]
            ∧ t.disp = { s.disp with planeA := t.disp.planeA, planeB := t.disp.planeB } ∧ t.disp.front = s.disp.front
            ∧ (∀ px py : Nat, px < 800 → py < 480 → t.disp.back.read (py * 800 + px)
                = if x ≤ px ∧ px < x + w ∧ y ≤ py ∧ py < y + h then index else s.disp.back.read (py * 800 + px)))))
    ∧ (s.accepts .putPixels tag body →
      let x := ofLeSigned (body.take 2)
      let y := ofLeSigned ((body.drop 2).take 2)
      let w := ofLe ((body.drop 4).take 2)
      let h := ofLe ((body.drop 6).take 2)
      let runs := runsOf (body.drop 8)
      let image := runs.flatMap fun r => List.replicate r.1 r.2
      let c : Instr := .putPixels tag body
      ((∃ r ∈ runs, 15 < r.2.toNat) → exec c s = .next (s.answered .putPixels tag [4]))
      ∧ ((∀ r ∈ runs, r.2.toNat ≤ 15) →
        (32 ≤ s.disp.queue.length → exec c s = .next (s.answered .putPixels tag [7]))
        ∧ (s.disp.queue.length < 32 →
            s.disp.sync = true ∨ (s.disp.power.isLit = true ∧ ∃ g r, s.disp.queue = .endBatch g :: r) →
            exec c s = .next ((s.setDisp { s.disp with queue := s.disp.queue ++ [.putPixels x y w h runs] }).answered
              .putPixels tag [0]))
        ∧ (s.disp.queue = [] → s.disp.sync = false → s.disp.back.wf = true → ∃ t, exec c s = .next t
            ∧ t = (s.setDisp t.disp).answered .putPixels tag [0] ∧ image.length = w * h
            ∧ t.disp = { s.disp with planeA := t.disp.planeA, planeB := t.disp.planeB } ∧ t.disp.front = s.disp.front
            ∧ (∀ px py : Nat, px < 800 → py < 480 →
                (∀ i j : Nat, i < w → j < h → (px : Int) = x + i → (py : Int) = y + j →
                  t.disp.back.read (py * 800 + px) = image.getD (j * w + i) 0)
                ∧ ((px : Int) < x ∨ x + w ≤ px ∨ (py : Int) < y ∨ y + h ≤ py →
                  t.disp.back.read (py * 800 + px) = s.disp.back.read (py * 800 + px))))))
    ∧ (s.link.rx = .awaitingSync → s.link.used < 16 →
      (body.length ≠ 9 → exec (.fillRect tag body) s = .next (s.answered .fillRect tag [3]))
      ∧ (body.length < 8 ∨ body.length % 2 = 1 ∨ ((runsOf (body.drop 8)).map Prod.fst).sum
            ≠ ofLe ((body.drop 4).take 2) * ofLe ((body.drop 6).take 2) →
          exec (.putPixels tag body) s = .next (s.answered .putPixels tag [3])))

/-- R119, R121: PUT_TEXT. Behind a plane sync or a waiting flip it is queued; otherwise it is carried out. The k-th
character's cell begins at x + 8k; a character of the font sets its glyph's pixels to the text index and the others to
the background index, each unless that index is 0; any other character fills its cell with the text index (with index
0 too, the model's choice, log entry 39). The glyphs are free values (log entry 19). -/
def Obligations.PutText : Prop :=
  ∀ (s : State) (tag : Byte) (body : List Byte), s.accepts .putText tag body →
    let x := ofLeSigned (body.take 2)
    let y := ofLeSigned ((body.drop 2).take 2)
    let text := body.getD 4 0
    let ground := body.getD 5 0
    let chars := body.drop 6
    let c : Instr := .putText tag body
    (15 < text.toNat ∨ 15 < ground.toNat → exec c s = .next (s.answered .putText tag [4]))
    ∧ (text.toNat ≤ 15 → ground.toNat ≤ 15 →
      (32 ≤ s.disp.queue.length → exec c s = .next (s.answered .putText tag [7]))
      ∧ (s.disp.queue.length < 32 →
          s.disp.sync = true ∨ (s.disp.power.isLit = true ∧ ∃ g r, s.disp.queue = .endBatch g :: r) →
          exec c s = .next ((s.setDisp { s.disp with queue := s.disp.queue ++ [.putText x y text ground chars] }).answered
            .putText tag [0]))
      ∧ (s.disp.queue = [] → s.disp.sync = false → s.disp.back.wf = true → ∃ t, exec c s = .next t
          ∧ t = (s.setDisp t.disp).answered .putText tag [0]
          ∧ t.disp = { s.disp with planeA := t.disp.planeA, planeB := t.disp.planeB } ∧ t.disp.front = s.disp.front
          ∧ (∀ px py : Nat, px < 800 → py < 480 →
              let old := s.disp.back.read (py * 800 + px)
              let new := t.disp.back.read (py * 800 + px)
              (∀ (k i j : Nat) (code : Byte), chars[k]? = some code → i < 8 → j < 16 →
                (px : Int) = x + 8 * k + i → (py : Int) = y + j →
                new = if code.toNat < 0x20 ∨ 0x7E < code.toNat then text
                  else if Config.glyph code.toNat i j then (if text = 0 then old else text)
                  else (if ground = 0 then old else ground))
              ∧ ((px : Int) < x ∨ x + 8 * chars.length ≤ px ∨ (py : Int) < y ∨ y + 16 ≤ py → new = old))))

/-- R118, R133: SET_PALETTE stores one colour; SET_DISPLAY_TIMEOUTS stores both timeouts and restarts the idle timer
in ON and DIM. -/
def Obligations.PaletteAndTimeouts : Prop :=
  ∀ (s : State) (tag a b c d : Byte),
    (s.accepts .setPalette tag [a, b, c, d] →
      (a.toNat = 0 ∨ 15 < a.toNat → exec (.setPalette tag [a, b, c, d]) s = .next (s.answered .setPalette tag [4]))
      ∧ (1 ≤ a.toNat → a.toNat ≤ 15 → exec (.setPalette tag [a, b, c, d]) s = .next
          ((s.setDisp { s.disp with palette := s.disp.palette.set (a.toNat - 1) ⟨b, c, d⟩ }).answered .setPalette tag [0])))
    ∧ (s.accepts .setDisplayTimeouts tag [a, b, c, d] → exec (.setDisplayTimeouts tag [a, b, c, d]) s = .next
        ((s.setDisp { s.disp with
            dimTimeout := a.toNat + 256 * b.toNat, blankTimeout := c.toNat + 256 * d.toNat
            idle := if s.disp.power = .on ∨ s.disp.power = .dim then some 0 else s.disp.idle }).answered
          .setDisplayTimeouts tag [0, a, b, c, d]))
    ∧ (∀ body : List Byte, body.length ≠ 4 → s.link.rx = .awaitingSync → s.link.used < 16 →
        exec (.setPalette tag body) s = .next (s.answered .setPalette tag [3])
        ∧ exec (.setDisplayTimeouts tag body) s = .next (s.answered .setDisplayTimeouts tag [3]))

/-- R123, R127, R128, R130, R132, R134, Table 7-5: SET_DISPLAY_POWER in each power state: the levels are limited to 15
and stored with every request that is not refused, and in ON and DIM the idle timer restarts; a refused BAD_VALUE
carries the four items of R132 (log entry 17) and changes nothing (the model's choice, log entry 65); a wake already
remembered in POWERING_DOWN keeps its first cause (log entry 22). An END_BATCH at the head of the queue, with no plane
sync, flips as ON or DIM is left (R123); its reply stands before that of the request (log entry 53). The steps of the
two power sequences, the requests remembered during them, and the expiries of the idle timer, each with its notice. A
blank expiry outside ON and DIM changes nothing (log entry 7). -/
def Obligations.DisplayPower : Prop :=
  (∀ (s : State) (tag req on dim : Byte), s.accepts .setDisplayPower tag [req, on, dim] →
      let c : Instr := .setDisplayPower tag [req, on, dim]
      let status : Byte := if 15 < on.toNat ∨ 15 < dim.toNat then 1 else 0
      let answers (d : Disp) (l : Link) : Prop := ∃ t, exec c s = .next t
        ∧ t.disp = { d with onLevel := min 15 on.toNat, dimLevel := min 15 dim.toNat
                            idle := if d.power = .on ∨ d.power = .dim then some 0 else d.idle }
        ∧ t.link = l.answer 0x26 tag
            [status, d.power.code, BitVec.ofNat 8 (min 15 on.toNat), BitVec.ofNat 8 (min 15 dim.toNat)]
        ∧ (s.disp.power = .blank → req = 0 → t.cap.power = if s.cap.power = .retention then .waking else s.cap.power)
        ∧ t.sett = s.sett ∧ t.chans = s.chans ∧ t.trig = s.trig ∧ t.acq = s.acq ∧ t.panel = s.panel ∧ t.auth = s.auth
        ∧ t.store = s.store
      let flipped (g : Byte) : Link :=
        { s.link with table := s.link.table.eraseP fun p => p.tag = g, replies := s.link.replies ++ [⟨0xA4, g, [0]⟩] }
      let down : Disp := { s.disp with power := .poweringDown, idle := none, cause := .request, shown := .background }
      let quiet := s.disp.queue = [] ∨ s.disp.sync = true
      (2 < req.toNat → exec c s = .next (s.answered .setDisplayPower tag
        [4, s.disp.power.code, BitVec.ofNat 8 s.disp.onLevel, BitVec.ofNat 8 s.disp.dimLevel]))
      ∧ (req = 1 → s.disp.power = .blank ∨ s.disp.power = .poweringUp ∨ s.disp.power = .poweringDown →
          exec c s = .next (s.answered .setDisplayPower tag [5, 8]))
      ∧ (s.disp.power = .blank →
        (req = 0 → answers { s.disp with power := .poweringUp, logic := true, cause := .request, blankPending := false
                                         wakePending := none } s.link)
        ∧ (req = 2 → answers s.disp s.link))
      ∧ (s.disp.power = .poweringUp →
        (req = 0 → answers { s.disp with blankPending := false } s.link)
        ∧ (req = 2 → answers { s.disp with blankPending := true } s.link))
      ∧ (s.disp.power = .on → (req = 0 → answers s.disp s.link) ∧ (req = 1 → answers { s.disp with power := .dim } s.link)
        ∧ (req = 2 → quiet → answers down s.link))
      ∧ (s.disp.power = .dim →
        (req = 0 → answers { s.disp with power := .on } (s.link.present (.display .on .request .on)))
        ∧ (req = 1 → answers s.disp s.link) ∧ (req = 2 → quiet → answers down s.link))
      ∧ (req = 2 → s.disp.power = .on ∨ s.disp.power = .dim → ∀ g r, s.disp.queue = .endBatch g :: r →
          s.disp.sync = false → s.link.table.find? (fun p => p.tag = g) = some ⟨g, .endBatch⟩ →
          answers { down with frontA := !s.disp.frontA, queue := r, sync := true } (flipped g))
      ∧ (s.disp.power = .poweringDown →
        (req = 0 → answers { s.disp with wakePending := some (s.disp.wakePending.getD .request) } s.link)
        ∧ (req = 2 → answers { s.disp with wakePending := none } s.link)))
  ∧ ∀ s : State,
      let quiet := s.disp.queue = [] ∨ s.disp.sync = true
      (s.disp.power = .poweringUp → s.disp.scanning = false →
        exec .panelScanningBegins s = .next (s.setDisp { s.disp with scanning := true, shown := .background }))
      ∧ (s.disp.power = .poweringUp → s.disp.scanning = true → ∃ t, exec .backlightOn s = .next t
        ∧ (s.disp.blankPending = false ∨ quiet → t.link = s.link.present (.display .on s.disp.cause .on))
        ∧ (s.disp.blankPending = false → t.disp = { s.disp with power := .on, idle := some 0 })
        ∧ (s.disp.blankPending = true → quiet → t.disp = { s.disp with
            power := .poweringDown, blankPending := false, idle := none, cause := .request, shown := .background })
        ∧ t.sett = s.sett ∧ t.chans = s.chans ∧ t.acq = s.acq ∧ t.panel = s.panel ∧ t.store = s.store)
      ∧ (s.disp.power = .poweringDown → s.disp.scanning = true →
        exec .panelScanningStops s = .next (s.setDisp { s.disp with scanning := false, shown := .nothing }))
      ∧ (s.disp.power = .poweringDown → s.disp.scanning = false → ∃ t, exec .panelLogicDisabled s = .next t
        ∧ t.link = s.link.present (.display .blank s.disp.cause .blank)
        ∧ (s.disp.wakePending = none → t.disp = { s.disp with power := .blank, logic := false }
            ∧ t.cap.power = if s.cap.power = .active ∧ s.acq.state.isRunning = false ∧ s.cap.readout.isOpen = false
                ∧ s.rend.pass = none ∧ s.link.started = true then .retention else s.cap.power)
        ∧ (∀ cause, s.disp.wakePending = some cause → t.disp = { s.disp with
            power := .poweringUp, logic := true, cause := cause, blankPending := false, wakePending := none })
        ∧ t.sett = s.sett ∧ t.chans = s.chans ∧ t.acq = s.acq ∧ t.rend = s.rend ∧ t.panel = s.panel ∧ t.store = s.store)
      ∧ (s.disp.power = .on → s.disp.dimTimeout ≠ 0 → ∃ t, exec .dimExpiry s = .next t
        ∧ t.disp = { s.disp with power := .dim } ∧ t.link = s.link ∧ t.sett = s.sett ∧ t.acq = s.acq ∧ t.store = s.store)
      ∧ (s.disp.power ≠ .on → exec .dimExpiry s = .next s)
      ∧ (s.disp.power = .on ∨ s.disp.power = .dim → s.disp.blankTimeout ≠ 0 →
        let down : Disp := { s.disp with power := .poweringDown, idle := none, cause := .timeout, shown := .background }
        (quiet → exec .blankExpiry s = .next (s.setDisp down))
        ∧ (∀ g r, s.disp.queue = .endBatch g :: r → s.disp.sync = false → ∃ t, exec .blankExpiry s = .next t
          ∧ t = (s.setDisp { down with frontA := !s.disp.frontA, queue := r, sync := true }).setLink t.link
          ∧ (s.link.table.find? (fun p => p.tag = g) = some ⟨g, .endBatch⟩ →
              t.link.replies = s.link.replies ++ [⟨0xA4, g, [0]⟩])))
      ∧ (s.disp.power ≠ .on → s.disp.power ≠ .dim → exec .blankExpiry s = .next s)

/-! ## Front panel -/

/-- R141, R145, R146, R151: the requests that bind keys, knobs and lamps store exactly what they name, and refuse every
other body with BAD_VALUE. A new encoder binding ends the encoder's run. -/
def Obligations.Bindings : Prop :=
  ∀ (s : State) (tag a b c d : Byte),
    (s.accepts .setKeyBinding tag [a, b, c, d] →
      (63 < a.toNat ∨ 11 < b.toNat ∨ 3 < d.toNat ∨ (b = 9 ∧ (c = 0 ∨ 31 < c.toNat)) ∨ (b = 10 ∧ 31 < c.toNat) →
        exec (.setKeyBinding tag [a, b, c, d]) s = .next (s.answered .setKeyBinding tag [4]))
      ∧ (∀ act : KeyAction, a.toNat ≤ 63 → d.toNat ≤ 3 → act.code = b →
          (∀ n, act = .saveSlot n → n = c.toNat ∧ 1 ≤ n ∧ n ≤ 31) → (∀ n, act = .recallSlot n → n = c.toNat ∧ n ≤ 31) →
          exec (.setKeyBinding tag [a, b, c, d]) s = .next ((s.setPanel { s.panel with
            keyBind := s.panel.keyBind.setIfInBounds a.toNat ⟨act, decide (d = 1 ∨ d = 3), decide (2 ≤ d.toNat)⟩ }).answered
              .setKeyBinding tag [0])))
    ∧ (s.accepts .setEncoderBinding tag [a, b, c] →
      (5 < a.toNat ∨ 8 < b.toNat ∨ ((b = 3 ∨ b = 4) ∧ (c = 0 ∨ 4 < c.toNat)) →
        exec (.setEncoderBinding tag [a, b, c]) s = .next (s.answered .setEncoderBinding tag [4]))
      ∧ (∀ t : EncTarget, a.toNat ≤ 5 → t.code = b → (∀ ch, t = .position ch ∨ t = .scale ch → ch.num = c.toNat) →
          exec (.setEncoderBinding tag [a, b, c]) s = .next ((s.setPanel { s.panel with
            encs := s.panel.encs.setIfInBounds a.toNat { s.panel.enc a.toNat with run := none },
            encBind := s.panel.encBind.setIfInBounds a.toNat t }).answered .setEncoderBinding tag [0])))
    ∧ (s.accepts .setLed tag [a, b, c] →
      (31 < a.toNat ∧ a ≠ 255 ∨ (a.toNat ≤ 31 ∧ (14 < b.toNat ∨ 3 < c.toNat)) ∨ (a = 255 ∧ c ≠ 0) →
        exec (.setLed tag [a, b, c]) s = .next (s.answered .setLed tag [4]))
      ∧ (∀ (src : LampSource) (st : LampState), a.toNat ≤ 31 → src.code = b → st.code = c →
          exec (.setLed tag [a, b, c]) s = .next ((s.setPanel { s.panel with
            lamps := s.panel.lamps.setIfInBounds a.toNat ⟨src, if src = .link then st else .off⟩ }).answered
              .setLed tag [0]))
      ∧ (a = 255 → c = 0 → exec (.setLed tag [a, b, c]) s = .next ((s.setPanel
            { s.panel with brightness := min 15 b.toNat }).answered .setLed tag [if 15 < b.toNat then 1 else 0])))
    ∧ (∀ body : List Byte, s.link.rx = .awaitingSync → s.link.used < 16 →
      (body.length ≠ 4 → exec (.setKeyBinding tag body) s = .next (s.answered .setKeyBinding tag [3]))
      ∧ (body.length ≠ 3 → exec (.setEncoderBinding tag body) s = .next (s.answered .setEncoderBinding tag [3])
        ∧ exec (.setLed tag body) s = .next (s.answered .setLed tag [3])))

/-- R131, R136 to R138, R140, R142, R143: one scan in which at most one key is sensed away from its accepted state. A
count below three rises; at the fourth such scan the key is accepted, unless the ghost guard holds a press back. Every
accepted press and release is panel activity, which lights a DIM panel, wakes a dark one, and is remembered in
POWERING_DOWN. An accepted press opens a hold; in ON and DIM it goes to its binding: reported, refused for want of
authority, or done; in the dark it is dropped and its hold consumed. -/
def Obligations.MatrixScan : Prop :=
  ∀ (s : State) (sensed : BitVec 64) (cond : BitVec 4) (k : Nat), s.panel.scanning = true → k < 64 →
    (∀ j, j < 64 → j ≠ k → sensed.getLsbD j = (s.panel.key j).pressed) →
    let x := s.panel.key k
    let others (t : State) : Prop := (∀ j, j < 64 → j ≠ k → t.panel.key j = { s.panel.key j with count := 0, blocked := false })
      ∧ t.panel = { s.panel with keys := t.panel.keys }
    let rest (t : State) : Prop := t.sett = s.sett ∧ t.chans = s.chans ∧ t.trig = s.trig ∧ t.acq = s.acq ∧ t.cap = s.cap
      ∧ t.auth = s.auth ∧ t.store = s.store
    let power := s.disp.power
    let awake := power = .on ∨ power = .dim
    let activity (l : Link) : Link := match power with
      | .dim => l.present (.display .on .activity .on)
      | .blank => l.present (.display .wake .activity .poweringUp)
      | .poweringDown => if s.disp.wakePending = none then l.present (.display .wake .activity .poweringDown) else l
      | _ => l
    let roused : Disp := match power with
      | .on | .dim => { s.disp with power := .on, idle := some 0 }
      | .blank => { s.disp with power := .poweringUp, logic := true, cause := .activity, blankPending := false
                                wakePending := none }
      | .poweringUp => s.disp
      | .poweringDown => { s.disp with wakePending := some (s.disp.wakePending.getD .activity) }
    let acted (t : State) : Prop := t.sett = s.sett ∧ t.chans = s.chans ∧ t.trig = s.trig ∧ t.acq = s.acq
      ∧ t.cap.mem = s.cap.mem ∧ t.cap.history = s.cap.history ∧ t.cap.readout = s.cap.readout
      ∧ (power = .on → t.cap = s.cap) ∧ t.auth = s.auth ∧ t.store = s.store
    let dropped (t : State) : Prop := t.sett = s.sett ∧ t.chans = s.chans ∧ t.trig = s.trig ∧ t.acq = s.acq
      ∧ t.rend = s.rend ∧ t.auth = s.auth ∧ t.store = s.store ∧ t.disp = roused ∧ t.link = activity s.link
      ∧ t.cap = { s.cap with power := if power = .blank ∧ s.cap.power = .retention then .waking else s.cap.power }
    let guarded := (∃ j, j < 64 ∧ j ≠ k ∧ (s.panel.key j).pressed = true ∧ j / 8 = k / 8)
      ∧ (∃ j, j < 64 ∧ j ≠ k ∧ (s.panel.key j).pressed = true ∧ j % 8 = k % 8)
    let held : Key := ⟨true, 0, false, some ⟨⟨400000, 0⟩, some ⟨2000000, 0⟩, false⟩⟩
    let bound := s.panel.binding k
    ∃ t, exec (.matrixScan sensed cond) s = .next t ∧ others t
      ∧ (sensed.getLsbD k = x.pressed →
          t.panel.key k = { x with count := 0, blocked := false } ∧ rest t ∧ t.rend = s.rend ∧ t.disp = s.disp
          ∧ t.link = s.link)
      ∧ (sensed.getLsbD k ≠ x.pressed → x.count < 3 →
          t.panel.key k = { x with count := x.count + 1 } ∧ rest t ∧ t.rend = s.rend ∧ t.disp = s.disp ∧ t.link = s.link)
      ∧ (sensed.getLsbD k = true → x.pressed = false → 3 ≤ x.count → guarded →
          t.panel.key k = { x with count := 4, blocked := true } ∧ rest t ∧ t.rend = s.rend ∧ t.disp = s.disp
          ∧ t.link = s.link)
      ∧ (sensed.getLsbD k = true → x.pressed = false → 3 ≤ x.count → ¬ guarded → awake →
          t.panel.key k = held ∧ t.disp = roused
          ∧ (bound.action = .report → acted t ∧ (power = .on → t.rend = s.rend) ∧ t.rend.maps = s.rend.maps
              ∧ t.link = (activity s.link).present (.key k .press s.panel.ms .report .reported .ok))
          ∧ (bound.action.groups.all s.auth.set.has = false → acted t ∧ (power = .on → t.rend = s.rend)
              ∧ t.rend.maps = s.rend.maps
              ∧ t.link = (activity s.link).present (.key k .press s.panel.ms bound.action .refused .ok))
          ∧ (bound.action = .clearPersist → s.auth.set.display = true → bound.alsoFlag = false → acted t
              ∧ t.rend.maps = ⟨[], [], [], []⟩
              ∧ (power = .on → t.rend = { s.rend with maps := ⟨[], [], [], []⟩ }) ∧ t.link = activity s.link)
          ∧ (bound.action = .force → s.auth.set.trigger = true → s.acq.state = .stopped → acted t
              ∧ (power = .on → t.rend = s.rend) ∧ t.rend.maps = s.rend.maps
              ∧ t.link = (activity s.link).present (.key k .press s.panel.ms .force .failed .badState)))
      ∧ (sensed.getLsbD k = true → x.pressed = false → 3 ≤ x.count → ¬ guarded → ¬ awake →
          t.panel.key k = ⟨true, 0, false, some ⟨⟨400000, 0⟩, some ⟨2000000, 0⟩, true⟩⟩ ∧ dropped t)
      ∧ (sensed.getLsbD k = false → x.pressed = true → 3 ≤ x.count →
          t.panel.key k = ⟨false, 0, false, none⟩
          ∧ (¬ awake → dropped t)
          ∧ (awake → bound.action = .report → acted t ∧ (power = .on → t.rend = s.rend) ∧ t.rend.maps = s.rend.maps
              ∧ t.disp = roused ∧ t.link = (if x.hold.any Hold.consumed = true then activity s.link
                else (activity s.link).present (.key k .release s.panel.ms .report .reported .ok))))

/-- R129 to R131, R138 to R140, R143 to R149: the timers of a held key and the lines of an encoder. The repeat timer
falls due again 80 ms later whether or not the repeat flag asks for a REPEAT; the long timer is spent at its one LONG;
in ON and DIM an event of a REPORT key is reported unless its hold was consumed. Panel activity lights a DIM panel,
wakes a dark one, with a WAKE notice, and is remembered in POWERING_DOWN; in the dark the event is dropped. The
quarter-steps of an encoder go forward and back through a cycle; when both lines change its position is lost, and a
lost position rests at the next change that reaches (0, 0), be it of both lines (log entry 41). A completed cycle is a
detent; in ON and DIM its delta is reported, or moves the bound setting if the panel has authority over it; in the
dark it lengthens the encoder's run and no more; a detent on VIEW_SPAN doubles or halves the span about its middle. A
SET_AUTHORITY that reaches the part between its two changes (log entry 48) is taken there: where it removes DISPLAY
the second is refused, the span stands, and the delta is reported with the refused mark; where no second change is due
it is taken after the command. A timer due without a hold, a long timer spent and lines that do not change change
nothing (log entry 7). -/
def Obligations.HoldsAndKnobs : Prop :=
  (∀ (s : State) (k : Fin 64) (h : Hold),
    ((s.panel.key k).hold = none → exec (.repeatTimerDue k) s = .next s ∧ exec (.longTimerDue k) s = .next s)
    ∧ ((s.panel.key k).hold = some h →
      let holding (h : Hold) : State := s.setPanel { s.panel with
        keys := s.panel.keys.setIfInBounds k { s.panel.key k with hold := some h } }
      let due := holding { h with repeatTimer := ⟨80000, 0⟩ }
      let spent := holding { h with longTimer := none }
      let lit : Disp := { s.disp with idle := some 0 }
      let produces (c : Instr) (s' : State) (ev : KeyEvent) : Prop :=
        (s.disp.power = .on → h.consumed = true → exec c s = .next (s'.setDisp lit))
        ∧ (s.disp.power = .on → (s.panel.binding k).action = .report → h.consumed = false →
          exec c s = .next ((s'.setDisp lit).present (.key k ev s.panel.ms .report .reported .ok)))
        ∧ (s.disp.power = .dim → (s.panel.binding k).action = .report → ∃ t, exec c s = .next t
          ∧ t.disp = { lit with power := .on } ∧ t.panel = s'.panel ∧ t.sett = s.sett ∧ t.acq = s.acq
          ∧ t.link = if h.consumed then s.link.present (.display .on .activity .on)
            else (s.link.present (.display .on .activity .on)).present (.key k ev s.panel.ms .report .reported .ok))
        ∧ (s.disp.power = .blank → exec c s = .next (((s'.setDisp { s.disp with
            power := .poweringUp, logic := true, cause := .activity, blankPending := false, wakePending := none }).setCap
              { s.cap with power := if s.cap.power = .retention then .waking else s.cap.power }).present
                (.display .wake .activity .poweringUp)))
        ∧ (s.disp.power = .poweringUp → exec c s = .next s')
        ∧ (s.disp.power = .poweringDown → s.disp.wakePending ≠ none → exec c s = .next s')
        ∧ (s.disp.power = .poweringDown → s.disp.wakePending = none → exec c s
            = .next ((s'.setDisp { s.disp with wakePending := some .activity }).present
                (.display .wake .activity .poweringDown)))
      ((s.panel.binding k).repeatFlag = false → exec (.repeatTimerDue k) s = .next due)
      ∧ ((s.panel.binding k).repeatFlag = true → produces (.repeatTimerDue k) due .repeat)
      ∧ (h.longTimer = none → exec (.longTimerDue k) s = .next s)
      ∧ (h.longTimer ≠ none → produces (.longTimerDue k) spent .long)))
  ∧ ∀ (s : State) (e : Fin 6) (a b : Bool),
    let x := s.panel.enc e
    let v := s.sett.vals
    let c : Instr := .encoderLineChange e (a, b) none
    let meets (r : Byte × List Byte) : Instr := .encoderLineChange e (a, b) (some r)
    let lit := s.disp.power = .on ∨ s.disp.power = .dim
    let moved (pos : DecoderPos) : State :=
      s.setPanel { s.panel with encs := s.panel.encs.setIfInBounds e { x with a := a, b := b, pos := pos } }
    (¬ lit ∨ s.panel.encTarget e ≠ .viewSpan ∨ s.auth.set.display = false ∨ s.panel.scanning = false
        ∨ (∀ cw, x.pos ≠ .cycle cw 3) →
      ∃ t, exec c s = .next t ∧ ∀ r, exec (meets r) s = exec (.setAuthority r.1 r.2) t)
    ∧ (x.a = a → x.b = b → exec c s = .next s)
    ∧ (s.panel.scanning = false → ¬ (x.a = a ∧ x.b = b) → exec c s = .next (moved x.pos))
    ∧ (s.panel.scanning = true →
      (x.a = false → x.b = false → x.pos = .rest →
        (a = true → b = false → exec c s = .next (moved (.cycle true 1)))
        ∧ (a = false → b = true → exec c s = .next (moved (.cycle false 1))))
      ∧ (∀ cw : Bool,
        (x.a = cw → x.b = (!cw) → x.pos = .cycle cw 1 →
          (a = true → b = true → exec c s = .next (moved (.cycle cw 2)))
          ∧ (a = false → b = false → exec c s = .next (moved .rest)))
        ∧ (x.a = true → x.b = true → x.pos = .cycle cw 2 →
          (a = (!cw) → b = cw → exec c s = .next (moved (.cycle cw 3)))
          ∧ (a = cw → b = (!cw) → exec c s = .next (moved (.cycle cw 1))))
        ∧ (x.a = (!cw) → x.b = cw → x.pos = .cycle cw 3 → a = true → b = true →
            exec c s = .next (moved (.cycle cw 2))))
      ∧ (x.a ≠ a → x.b ≠ b → x.pos ≠ .lost → exec c s = .next (moved .lost))
      ∧ (¬ (x.a = a ∧ x.b = b) → x.pos = .lost → exec c s = .next (moved (if a || b then .lost else .rest)))
      ∧ (∀ cw : Bool, x.a = (!cw) → x.b = cw → x.pos = .cycle cw 3 → a = false → b = false →
        let run : EncRun := match x.run with
          | some r => if r.clockwise = cw ∧ s.clock ≤ r.last + 60000
              then ⟨cw, if r.length < 65535 then r.length + 1 else r.length, s.clock⟩ else ⟨cw, 1, s.clock⟩
          | none => ⟨cw, 1, s.clock⟩
        let dir : Int := if cw then 1 else -1
        let delta : Int := dir * (if run.length ≤ 3 then 1 else if run.length ≤ 9 then 4 else 16)
        let target := s.panel.encTarget e
        let took : State := s.setPanel { s.panel with
          encs := s.panel.encs.setIfInBounds e { x with a := a, b := b, pos := .rest, run := some run } }
        (s.disp.power = .blank → exec c s = .next (((took.setDisp { s.disp with
            power := .poweringUp, logic := true, cause := .activity, blankPending := false, wakePending := none }).setCap
              { s.cap with power := if s.cap.power = .retention then .waking else s.cap.power }).present
                (.display .wake .activity .poweringUp)))
        ∧ (s.disp.power = .poweringUp → exec c s = .next took)
        ∧ (s.disp.power = .poweringDown → s.disp.wakePending ≠ none → exec c s = .next took)
        ∧ (s.disp.power = .poweringDown → s.disp.wakePending = none → exec c s
            = .next ((took.setDisp { s.disp with wakePending := some .activity }).present
                (.display .wake .activity .poweringDown)))
        ∧ (lit →
        let link := if s.disp.power = .dim then s.link.present (.display .on .activity .on) else s.link
        ∃ t, exec c s = .next t
          ∧ t.panel = took.panel
          ∧ t.disp = { s.disp with power := .on, idle := some 0 }
          ∧ (target = .report →
              t.link = link.present (.encoder e delta false .report) ∧ t.sett = s.sett ∧ t.store = s.store)
          ∧ (∀ (k : Setting) (g : Bool) (step : Int),
            (target = .trigLevel ∧ k = .trigLevel ∧ g = s.auth.set.trigger
                ∧ step = (match v.source with | some ch => 20 * (v.scaleMv ch : Int) | none => 10000))
              ∨ (target = .trigHyst ∧ k = .trigHyst ∧ g = s.auth.set.trigger ∧ step = 1)
              ∨ (∃ ch, target = .position ch ∧ k = .position ch ∧ g = s.auth.set.display ∧ step = 1)
              ∨ (∃ ch, target = .scale ch ∧ k = .scale ch ∧ g = s.auth.set.acquisition ∧ step = 1)
              ∨ (target = .viewStart ∧ k = .viewStart ∧ g = s.auth.set.display ∧ step = max 1 (v.viewSpan / 640))
              ∨ (target = .intensity ∧ k = .intensity ∧ g = s.auth.set.display ∧ step = 1)
              ∨ (target = .persistDecay ∧ k = .persistDecay ∧ g = s.auth.set.display ∧ step = 1) →
            (g = false → t.link = link.present (.encoder e delta true target) ∧ t.sett = s.sett ∧ t.store = s.store)
            ∧ (g = true → t.sett.vals.get k = clampInt (v.get k + delta * step) (v.range k).1 (v.range k).2
              ∧ (t.sett.vals.get k = v.get k → t.sett = s.sett ∧ t.link = link)
              ∧ (t.sett.vals.get k ≠ v.get k → s.link.mask.getLsbD 3 = true →
                  Notice.setting k (t.sett.vals.get k) .panel ∈ t.link.notices)))
          ∧ (target = .intensity → s.auth.set.display = true →
              let value := clampInt (v.intensity + delta) 1 64
              t.sett = { s.sett with vals := { v with intensity := value } }
              ∧ t.link = (if value = v.intensity then link else link.present (.setting .intensity value .panel))
              ∧ t.store = (if value = v.intensity ∨ s.store.autoEnable = false then s.store
                  else { s.store with autoTimer := some ⟨5000000, 0⟩ })
              ∧ (s.disp.power = .on → t.rend = s.rend ∧ t.cap = s.cap)
              ∧ t.acq = s.acq ∧ t.trig = s.trig ∧ t.chans = s.chans)
          ∧ (target = .viewSpan →
            let w := if cw then min (v.len : Int) (2 * v.viewSpan) else max 640 (v.viewSpan / 2)
            (w = v.viewSpan → t.sett = s.sett ∧ t.link = link ∧ ∀ r, exec (meets r) s = exec (.setAuthority r.1 r.2) t)
            ∧ (w ≠ v.viewSpan → s.auth.set.display = false →
                t.sett = s.sett ∧ t.link = link.present (.encoder e dir true .viewSpan))
            ∧ (w ≠ v.viewSpan → s.auth.set.display = true → v.inRange = true →
                let start := clampInt (v.viewStart + (v.viewSpan - w) / 2) 0 (v.len - w)
                t.sett = { s.sett with vals := { v with viewSpan := w, viewStart := start } }
                ∧ ∀ tag set o : Byte, s.accepts .setAuthority tag [set, o] → set.toNat ≤ 15 → o.toNat ≤ 1 →
                  let groups : AuthSet :=
                    ⟨set.toNat.testBit 0, set.toNat.testBit 1, set.toNat.testBit 2, set.toNat.testBit 3⟩
                  let state := if s.auth.state = .requested then .idle else s.auth.state
                  ∃ u, exec (meets (tag, [set, o])) s = .next u
                    ∧ u.auth.set = groups ∧ u.auth.override = decide (o = 1) ∧ u.auth.state = state
                    ∧ u.link.replies = (s.link.answer 0x2C tag [0, set, o, state.code]).replies
                    ∧ u.panel = t.panel ∧ u.disp = t.disp ∧ u.chans = t.chans
                    ∧ (groups.display = true → u.sett = t.sett)
                    ∧ (groups.display = false →
                      u.sett = { s.sett with vals := { v with viewSpan := w, viewStart := min v.viewStart (v.len - w) } }
                      ∧ (s.link.mask.getLsbD 2 = true → ∃ sum, Notice.encoder e sum true .viewSpan ∈ u.link.notices
                        ∧ ((∀ x r y, Notice.encoder e x r y ∉ s.link.notices) → sum = dir))))))))

/-- R22, R38, R61, R62, R68, R131, R142, R143, R156, R159, R166, R168: in ON and DIM, the
accepted press of the one key sensed away from its
state, unheld by the ghost guard, does what its binding to a local action names, if the panel has every group that the
action needs; a PRESS done is reported only with the report-also flag, and one that fails with the owner's status. A
LONG of a LOCAL_REQUEST key overrides a pending request, where that is allowed, and of any other such key is reported
only with the flag, in a hold in which the key was rebound too (the model's choice, log entry 64). A STARTED notice
carries ARMING (log entry 15); the outcomes DONE and REPORTED of LOCAL_REQUEST
events with the flag are log entry 41; a RECALL that completes at once is reported before its PRESS (log entry 56). -/
def Obligations.LocalActions : Prop :=
  (∀ (s : State) (sensed : BitVec 64) (cond : BitVec 4) (k : Nat), s.panel.scanning = true → k < 64 →
    (∀ j, j < 64 → j ≠ k → sensed.getLsbD j = (s.panel.key j).pressed) →
    sensed.getLsbD k = true → (s.panel.key k).pressed = false → 3 ≤ (s.panel.key k).count →
    s.disp.power = .on ∨ s.disp.power = .dim →
    ¬ ((∃ j, j < 64 ∧ j ≠ k ∧ (s.panel.key j).pressed = true ∧ j / 8 = k / 8)
      ∧ (∃ j, j < 64 ∧ j ≠ k ∧ (s.panel.key j).pressed = true ∧ j % 8 = k % 8)) →
    let b := s.panel.binding k
    let v := s.sett.vals
    let e (n : Nat) : Entry := s.store.entry n
    let notice (o : KeyOutcome) (st : Status) : Notice := .key k .press s.panel.ms b.action o st
    let link := if s.disp.power = .dim then s.link.present (.display .on .activity .on) else s.link
    let done (l : Link) : Link := if b.alsoFlag then l.present (notice .done .ok) else l
    let failed (st : Status) : Link := link.present (notice .failed st)
    let q := min (v.len * v.trigPosition.toNat / 1000) (v.len - 1)
    let running := s.acq.state ≠ .stopped ∧ s.acq.state ≠ .calibrating
    let set := s.auth.set
    ∃ t, exec (.matrixScan sensed cond) s = .next t ∧ t.sett = s.sett ∧ t.disp = { s.disp with power := .on, idle := some 0 }
      ∧ (b.action = .runStop ∨ b.action = .single → set.acquisition = true →
        let kind : RunKind := if b.action = .single then .single else if v.acqMode = 0 then .continuous else .sequence
        (s.acq.state = .stopped → v.e = 0 → t.acq = s.acq ∧ t.link = failed .badState)
        ∧ (s.acq.state = .stopped → 0 < v.e → s.cap.power = .active → 0 < s.cap.segs.length → s.cap.seg 0 = .free →
          t.acq = Acq.filling { s.acq with
            kind := kind, stopPending := false, base := 0, inFlight := some 0, e := v.e, q := q } s.trig
          ∧ t.link = done (link.present (.acqState .started .request .arming kind s.sett.gen s.acq.seq))))
      ∧ (b.action = .runStop → set.acquisition = true →
        (s.acq.state = .fillingPost → t.acq = { s.acq with stopPending := true } ∧ t.link = done link)
        ∧ (s.acq.state = .calibrating → t.acq = s.acq ∧ t.link = done link)
        ∧ (s.acq.state = .arming ∨ s.acq.state = .fillingPre ∨ s.acq.state = .ready →
          t.acq = { s.acq with state := .stopped, stopPending := false, inFlight := none, depth := false }
          ∧ t.link = done (link.present (.acqState .stopped .request .stopped s.acq.kind s.sett.gen s.acq.seq))))
      ∧ (b.action = .single → set.acquisition = true →
        (s.acq.state = .calibrating ∨ v.e = 0 → t.acq = s.acq ∧ t.link = failed .badState)
        ∧ (running → 0 < v.e → s.acq.kind = .single → t.acq = s.acq ∧ t.link = done link)
        ∧ (running → 0 < v.e → s.acq.kind ≠ .single → t.acq = { s.acq with kind := .single }
          ∧ t.link = done (link.present (.acqState .kindChanged .request s.acq.state .single s.sett.gen s.acq.seq))))
      ∧ (b.action = .force → set.trigger = true →
        (s.acq.state = .ready → t.acq = (s.triggered .byRequest).acq ∧ t.trig = (s.triggered .byRequest).trig
          ∧ (s.disp.power = .on → t.cap = (s.triggered .byRequest).cap) ∧ t.link = done link)
        ∧ (s.acq.state = .arming ∨ s.acq.state = .fillingPre →
            t.acq = s.acq ∧ t.trig = { s.trig with force := true } ∧ t.link = done link)
        ∧ (s.acq.state = .fillingPost ∨ s.acq.state = .stopped ∨ s.acq.state = .calibrating →
            t.acq = s.acq ∧ t.trig = s.trig ∧ t.link = failed .badState))
      ∧ (∀ ch, b.action = .restore ch → set.acquisition = true →
        let u := s.chans.unit.get ch
        (u.latch = false → t.chans = s.chans ∧ t.link = done link)
        ∧ (u.latch = true → u.front.term = 1 → cond.getLsbD (ch.num - 1) = true → t.chans = s.chans ∧ t.link = failed .badState)
        ∧ (u.latch = true → u.front.term ≠ 1 ∨ cond.getLsbD (ch.num - 1) = false → (∀ c, s.chans.selfCal = some c → c.turn ≠ ch) →
          t.chans = { s.chans with
            unit := s.chans.unit.put ch { u with latch := false, front := { u.front with isolated := false } } }
          ∧ t.link = done (link.present
              (.channel ch .restored (if (v.chan.get ch).enable = 0 then .off else .on) false u.cal u.d))))
      ∧ (∀ n, b.action = .saveSlot n → set.store = true →
        let op : Op := ⟨.save, .panel, n, 0, [], some ⟨1, v⟩, false⟩
        ((e n).isProtected = true → t.store = s.store ∧ t.link = failed .isProtected)
        ∧ ((e n).isProtected = false → 4 ≤ s.store.queue.length → t.store = s.store ∧ t.link = failed .queueFull)
        ∧ ((e n).isProtected = false → s.store.queue.length < 4 → s.store.running ≠ none →
            t.store = { s.store with queue := s.store.queue ++ [op] } ∧ t.link = done link)
        ∧ ((e n).isProtected = false → s.store.queue = [] → s.store.running = none →
            t.store = { s.store with
              queue := [op], dir := s.store.dir.setIfInBounds n { e n with state := .writing }
              running := some ⟨decide ((e n).state = .valid), s.chans.unit.map ChanUnit.record, false⟩ }
            ∧ t.link = done link))
      ∧ (∀ n, b.action = .recallSlot n → set = ⟨true, true, true, true⟩ →
        let op : Op := ⟨.recall, .panel, n, 0, [], none, false⟩
        (4 ≤ s.store.queue.length → t.store = s.store ∧ t.link = failed .queueFull)
        ∧ (s.store.queue.length < 4 → s.store.running ≠ none →
            t.store = { s.store with queue := s.store.queue ++ [op] } ∧ t.link = done link)
        ∧ (s.store.queue = [] → s.store.running = none → (e n).state = .valid →
            t.store = { s.store with
              queue := [op], running := some ⟨true, s.chans.unit.map ChanUnit.record, false⟩ }
            ∧ t.link = done link)
        ∧ (s.store.queue = [] → s.store.running = none → (e n).state = .empty → s.store.calPending = false →
            s.store.autoHeld = none → t.store = s.store
            ∧ t.link = done (link.present (.store .recall .panel n .notFound .empty (e n).writeCount))))
      ∧ (b.action = .localRequest →
        (s.auth.state = .idle → set ≠ ⟨true, true, true, true⟩ →
          t.auth = { s.auth with state := .requested, request := some ⟨10000000, 0⟩ }
          ∧ t.link = done (link.present (.localReq .requested set .requested s.auth.override)))
        ∧ (s.auth.state ≠ .idle ∨ set = ⟨true, true, true, true⟩ →
          t.auth = s.auth ∧ t.link = link.present (notice .reported .ok))))
  ∧ ∀ (s : State) (k : Fin 64) (h : Hold), (s.panel.key k).hold = some h → h.longTimer ≠ none → h.consumed = false →
    s.disp.power = .on →
    let b := s.panel.binding k
    let full : AuthSet := ⟨true, true, true, true⟩
    let long (a : KeyAction) : Notice := .key k .long s.panel.ms a .reported .ok
    let also (l : Link) : Link := if b.alsoFlag then l.present (long b.action) else l
    ∃ t, exec (.longTimerDue k) s = .next t ∧ t.sett = s.sett ∧ t.acq = s.acq ∧ t.chans = s.chans ∧ t.store = s.store
      ∧ (b.action = .localRequest → s.auth.state = .requested → s.auth.override = true →
        t.auth = { s.auth with set := full, state := .idle, request := none }
        ∧ t.link = also (s.link.present (.localReq .overridden full .idle true)))
      ∧ (b.action = .localRequest → s.auth.state ≠ .requested ∨ s.auth.override = false →
        t.auth = s.auth ∧ t.link = s.link.present (long .localRequest))
      ∧ (b.action ≠ .localRequest → b.action ≠ .report → t.auth = s.auth ∧ t.link = also s.link)

/-! ## Authority -/

/-- R155, R157, R158, R161: SET_AUTHORITY stores its set and permission and resolves a request; ANSWER_LOCAL grants or
denies a request and is otherwise too late; the two timers end their states. A BAD_VALUE of SET_AUTHORITY has one
byte, one of ANSWER_LOCAL the three items of R157 (log entry 17); a timer's expiry in another state changes nothing
(log entry 7). -/
def Obligations.AuthorityExchange : Prop :=
  ∀ (s : State) (tag v o : Byte),
    (s.accepts .setAuthority tag [v, o] →
      (15 < v.toNat ∨ 1 < o.toNat → exec (.setAuthority tag [v, o]) s = .next (s.answered .setAuthority tag [4]))
      ∧ (v.toNat ≤ 15 → o.toNat ≤ 1 →
        let set : AuthSet := ⟨v.toNat.testBit 0, v.toNat.testBit 1, v.toNat.testBit 2, v.toNat.testBit 3⟩
        (s.auth.state ≠ .requested → exec (.setAuthority tag [v, o]) s = .next
          ((s.setAuth { s.auth with set := set, override := decide (o = 1) }).answered .setAuthority tag
            [0, v, o, s.auth.state.code]))
        ∧ (s.auth.state = .requested → exec (.setAuthority tag [v, o]) s = .next
          (((s.setAuth { s.auth with set := set, override := decide (o = 1), state := .idle, request := none }).present
            (.localReq .resolved set .idle (decide (o = 1)))).answered .setAuthority tag [0, v, o, 0]))))
    ∧ (s.accepts .answerLocal tag [v] →
      (1 < v.toNat → exec (.answerLocal tag [v]) s
          = .next (s.answered .answerLocal tag [4, BitVec.ofNat 8 s.auth.set.bits, s.auth.state.code]))
      ∧ (v.toNat ≤ 1 → s.auth.state ≠ .requested → exec (.answerLocal tag [v]) s
          = .next (s.answered .answerLocal tag [12, BitVec.ofNat 8 s.auth.set.bits, s.auth.state.code]))
      ∧ (v = 1 → s.auth.state = .requested → exec (.answerLocal tag [v]) s = .next
          (((s.setAuth { s.auth with set := AuthSet.full, state := .idle, request := none }).present
            (.localReq .granted AuthSet.full .idle s.auth.override)).answered .answerLocal tag [0, 15, 0]))
      ∧ (v = 0 → s.auth.state = .requested → exec (.answerLocal tag [v]) s = .next
          (((s.setAuth { s.auth with state := .denied, request := none, denied := some ⟨2000000, 0⟩ }).present
            (.localReq .denied s.auth.set .denied s.auth.override)).answered .answerLocal tag
              [0, BitVec.ofNat 8 s.auth.set.bits, 2])))
    ∧ (s.auth.state = .requested → exec .requestTimerExpiry s = .next
        ((s.setAuth { s.auth with state := .denied, request := none, denied := some ⟨2000000, 0⟩ }).present
          (.localReq .timedOut s.auth.set .denied s.auth.override)))
    ∧ (s.auth.state ≠ .requested → exec .requestTimerExpiry s = .next s)
    ∧ (s.auth.state = .denied →
        exec .deniedTimerExpiry s = .next (s.setAuth { s.auth with state := .idle, denied := none }))
    ∧ (s.auth.state ≠ .denied → exec .deniedTimerExpiry s = .next s)
    ∧ (∀ body : List Byte, s.link.rx = .awaitingSync → s.link.used < 16 →
      (body.length ≠ 2 → exec (.setAuthority tag body) s = .next (s.answered .setAuthority tag [3]))
      ∧ (body.length ≠ 1 → exec (.answerLocal tag body) s = .next (s.answered .answerLocal tag [3])))

/-! ## Saved setups -/

/-- R165, R166, R168 to R170, R172: SAVE, RECALL, ERASE and PROTECT are checked at arrival. With the queue empty an
accepted operation begins: one that writes marks its slot WRITING, and one that its entry answers completes at once.
Behind an executing operation it waits. SET_AUTOSAVE stores the enable, and off clears the timer and the held image.
On leaves a timer that runs running (log entry 55). A reply at arrival has one byte (log entry 17). -/
def Obligations.StoreRequests : Prop :=
  ∀ (s : State) (tag slot on : Byte) (name : List Byte),
    let n := slot.toNat
    let e := s.store.entry n
    let image : Image := ⟨1, s.sett.vals⟩
    let named := ∀ b ∈ name, 0x20 ≤ b.toNat ∧ b.toNat ≤ 0x7E
    let idle := s.store.queue = [] ∧ s.store.running = none
    let run : Running := ⟨decide (e.state = .valid), s.chans.unit.map ChanUnit.record, false⟩
    let begins (c : Instr) (k : ReqKind) (op : Op) (writes : Prop) [Decidable writes] : Prop :=
      exec c s = .next ((s.entered k tag).setStore { s.store with
        queue := [op], running := some run
        dir := if writes then s.store.dir.setIfInBounds n { e with state := .writing } else s.store.dir })
    let waits (c : Instr) (k : ReqKind) (op : Op) : Prop :=
      s.store.running ≠ none → s.store.queue.length < 4 →
        exec c s = .next ((s.entered k tag).setStore { s.store with queue := s.store.queue ++ [op] })
    let full (c : Instr) (k : ReqKind) : Prop := 4 ≤ s.store.queue.length → exec c s = .next (s.answered k tag [7])
    let bad (c : Instr) (k : ReqKind) : Prop := exec c s = .next (s.answered k tag [4])
    let saveOp : Op := ⟨.save, .link, n, tag, name, some image, false⟩
    let recallOp : Op := ⟨.recall, .link, n, tag, [], none, false⟩
    let eraseOp : Op := ⟨.erase, .link, n, tag, [], none, false⟩
    let protectOp : Op := ⟨.protect, .link, n, tag, [], none, decide (on = 1)⟩
    (s.accepts .save tag (slot :: name) →
      (n = 0 ∨ 31 < n ∨ ¬ named → bad (.save tag (slot :: name)) .save)
      ∧ (1 ≤ n → n ≤ 31 → named →
        (e.isProtected = true → exec (.save tag (slot :: name)) s = .next (s.answered .save tag [9]))
        ∧ (e.isProtected = false → full (.save tag (slot :: name)) .save ∧ waits (.save tag (slot :: name)) .save saveOp
          ∧ (idle → begins (.save tag (slot :: name)) .save saveOp True))))
    ∧ (s.accepts .recall tag [slot] →
      (31 < n → bad (.recall tag [slot]) .recall)
      ∧ (n ≤ 31 → full (.recall tag [slot]) .recall ∧ waits (.recall tag [slot]) .recall recallOp
        ∧ (idle → (e.state = .valid → begins (.recall tag [slot]) .recall recallOp False)
          ∧ (e.state = .empty → s.store.calPending = false → s.store.autoHeld = none →
              exec (.recall tag [slot]) s = .next (s.answered .recall tag [8, slot]))
          ∧ (e.state = .bad → s.store.calPending = false → s.store.autoHeld = none →
              exec (.recall tag [slot]) s = .next (s.answered .recall tag [13, slot])))))
    ∧ (s.accepts .erase tag [slot] →
      (31 < n → bad (.erase tag [slot]) .erase)
      ∧ (n ≤ 31 → e.isProtected = true → exec (.erase tag [slot]) s = .next (s.answered .erase tag [9]))
      ∧ (n ≤ 31 → e.isProtected = false → full (.erase tag [slot]) .erase ∧ waits (.erase tag [slot]) .erase eraseOp
        ∧ (idle → begins (.erase tag [slot]) .erase eraseOp True)))
    ∧ (s.accepts .protect tag [slot, on] →
      (31 < n ∨ 1 < on.toNat → bad (.protect tag [slot, on]) .protect)
      ∧ (n ≤ 31 → on.toNat ≤ 1 → full (.protect tag [slot, on]) .protect
        ∧ waits (.protect tag [slot, on]) .protect protectOp
        ∧ (idle → n ≠ 0 → e.state = .valid → e.isProtected ≠ decide (on = 1) →
            begins (.protect tag [slot, on]) .protect protectOp True)
        ∧ (idle → n ≠ 0 → e.state = .valid → e.isProtected = decide (on = 1) → s.store.calPending = false →
            s.store.autoHeld = none → exec (.protect tag [slot, on]) s
              = .next (s.answered .protect tag [0, slot, 1, on]))
        ∧ (idle → n = 0 ∨ e.state ≠ .valid → s.store.calPending = false → s.store.autoHeld = none →
            exec (.protect tag [slot, on]) s
              = .next (s.answered .protect tag [8, slot, e.state.code, if e.isProtected then 1 else 0]))))
    ∧ (s.accepts .setAutosave tag [on] →
      (1 < on.toNat → bad (.setAutosave tag [on]) .setAutosave)
      ∧ (on = 1 → exec (.setAutosave tag [on]) s
          = .next ((s.setStore { s.store with autoEnable := true }).answered .setAutosave tag [0, 1]))
      ∧ (on = 0 → exec (.setAutosave tag [on]) s = .next
          ((s.setStore { s.store with autoEnable := false, autoTimer := none, autoHeld := none }).answered
            .setAutosave tag [0, 0])))

/-- R167 to R170, R172 to R174: the end of the one operation of the queue. A good write makes the entry VALID with the
header's values, a bad one makes it BAD and its sector spoiled (log entry 62); a recall applies its image as one
transaction, each value clamped to its range, with at most one restart, and is CLAMPED if a value lay outside its
range (R6, R16); a calibration write stores the records taken at its start. A link operation is answered, and a
calibration write reported; panel operations and AUTOSAVE are StoreQueue's. The autosave timer's expiry queues an
AUTOSAVE of the settings standing. The answer of a recall that restarts stands after the deferred replies of a readout
that was OPENING (log entry 59). saved_at is the time at completion (log entry 26), a good read of a sector that holds
no setup is CHECK_FAILED (log entry 41), a BAD or EMPTY entry holds no check (log entry 57), and an expiry with no
autosave timer running changes nothing (log entry 7). -/
def Obligations.StoreCompletions : Prop :=
  ∀ (s : State) (op : Op) (r : Running) (good : Bool) (cond : BitVec 4),
    let e := s.store.entry op.slot
    let slot : Byte := BitVec.ofNat 8 op.slot
    let time := if s.link.todSet then some s.link.tod else none
    let replied (t : State) (k : ReqKind) (body : List Byte) : Prop :=
      s.link.table.find? (fun p => p.tag = op.tag) = some ⟨op.tag, k⟩ →
        t.link.replies = s.link.replies ++ [⟨k.code + 0x80, op.tag, body⟩]
    let emptied (t : State) : Prop := t.store.queue = [] ∧ t.store.running = none
    let others (t : State) : Prop := t.sett = s.sett ∧ t.chans = s.chans ∧ t.trig = s.trig ∧ t.acq = s.acq ∧ t.cap = s.cap
      ∧ t.rend = s.rend ∧ t.disp = s.disp ∧ t.panel = s.panel ∧ t.auth = s.auth
    (s.store.queue = [op] → s.store.running = some r → r.silent = false → s.store.calPending = false →
      s.store.autoHeld = none →
      (op.slot < 32 → op.kind = .save → op.origin = .link → ∀ i, op.image = some i →
        let count := if r.wasValid then (if e.writeCount < 65535 then e.writeCount + 1 else e.writeCount) else 1
        ∃ t, exec (.saveComplete good) s = .next t ∧ emptied t ∧ others t
          ∧ (good = true → t.store.device.sector op.slot = .written ⟨op.name, .link, time, count, false⟩ i
            ∧ t.store.entry op.slot
                = { state := .valid, name := op.name, origin := some .link, savedAt := time, writeCount := count
                    isProtected := false, check := some (sectorCheck ⟨op.name, .link, time, count, false⟩ i) }
            ∧ replied t .save ([0, slot, 1] ++ leBytes 2 count))
          ∧ (good = false → t.store.device.sector op.slot = .spoiled
            ∧ t.store.entry op.slot = ⟨.bad, [], none, none, 0, false, none⟩ ∧ replied t .save [14, slot, 2, 0, 0])
          ∧ (∀ j, j ≠ op.slot → t.store.entry j = s.store.entry j
              ∧ t.store.device.sector j = s.store.device.sector j))
      ∧ (op.slot < 32 → op.kind = .recall → op.origin = .link →
        ((good = false ∨ ∀ h i, s.store.device.sector op.slot ≠ .written h i) →
          ∃ t, exec (.recallComplete good cond) s = .next t ∧ emptied t ∧ others t
            ∧ t.store.entry op.slot = ⟨.bad, [], none, none, 0, false, none⟩ ∧ replied t .recall [13, slot])
        ∧ (∀ h i, good = true → s.store.device.sector op.slot = .written h i → i.version ≠ 1 →
          ∃ t, exec (.recallComplete good cond) s = .next t ∧ emptied t ∧ others t ∧ t.store.dir = s.store.dir
            ∧ replied t .recall [13, slot])
        ∧ (∀ h i, good = true → s.store.device.sector op.slot = .written h i → i.version = 1 →
          (s.sett.vals.inRange = true → i.vals = s.sett.vals →
            ∃ t, exec (.recallComplete good cond) s = .next t ∧ emptied t ∧ others t ∧ t.store.dir = s.store.dir
              ∧ t.store.autoTimer = s.store.autoTimer ∧ replied t .recall [0, slot])
          ∧ (s.owedOk = true →
            ∃ t, exec (.recallComplete good cond) s = .next t ∧ emptied t
              ∧ (∀ k, t.sett.vals.get k
                  = clampInt (i.vals.get k) (t.sett.vals.range k).1 (t.sett.vals.range k).2)
              ∧ (i.vals.inRange = true → t.sett.vals = i.vals)
              ∧ ((∃ k : Setting, (k.id ≤ 35 ∨ k.id = 58) ∧ t.sett.vals.get k ≠ s.sett.vals.get k) →
                  t.sett.gen = s.sett.gen + 1)
              ∧ ((∀ k : Setting, k.id ≤ 35 ∨ k.id = 58 → t.sett.vals.get k = s.sett.vals.get k) →
                  t.sett.gen = s.sett.gen)
              ∧ t.store.dir = s.store.dir
              ∧ (s.link.table.find? (fun p => p.tag = op.tag) = some ⟨op.tag, .recall⟩ →
                  t.link.replies.getLast? = some ⟨0xB1, op.tag, [if i.vals.inRange then 0 else 1, slot]⟩)
              ∧ t.disp = s.disp ∧ t.panel = s.panel ∧ t.auth = s.auth)))
      ∧ (op.slot < 32 → op.kind = .erase → op.origin = .link → ∃ t, exec (.eraseComplete good) s = .next t ∧ emptied t ∧ others t
        ∧ t.store.device.sector op.slot = (if good then .blank else .spoiled)
        ∧ t.store.entry op.slot = ⟨if good then .empty else .bad, [], none, none, 0, false, none⟩
        ∧ replied t .erase (if good then [0, slot, 0, 0, 0] else [14, slot, 2, 0, 0]))
      ∧ (op.slot < 32 → op.kind = .protect → op.origin = .link → ∀ h i, s.store.device.sector op.slot = .written h i →
        let h' : SlotHeader := { h with isProtected := op.on }
        ∃ t, exec (.protectComplete good) s = .next t ∧ emptied t ∧ others t
          ∧ (good = true → t.store.device.sector op.slot = .written h' i
            ∧ t.store.entry op.slot
                = { state := .valid, name := h.name, origin := some h.origin, savedAt := h.savedAt
                    writeCount := h.writeCount, isProtected := op.on, check := some (sectorCheck h' i) }
            ∧ replied t .protect [0, slot, 1, if op.on then 1 else 0])
          ∧ (good = false → t.store.entry op.slot = ⟨.bad, [], none, none, 0, false, none⟩
            ∧ replied t .protect [14, slot, 2, 0]))
      ∧ (op.kind = .calWrite → op.origin = .cal → ∃ t, exec (.calWriteComplete good) s = .next t ∧ emptied t ∧ others t
        ∧ t.store.device = { s.store.device with cal := if good then .written 1 r.records else .spoiled }
        ∧ t.link = s.link.present (.store .calWrite .cal 255 (if good then .ok else .deviceFault) .empty 0)))
    ∧ (s.store.autoTimer = none → exec .autosaveTimerExpiry s = .next s)
    ∧ (s.store.autoTimer ≠ none →
      (s.store.queue = [] → s.store.running = none → (s.store.entry 0).isProtected = false →
        ∃ t, exec .autosaveTimerExpiry s = .next t ∧ others t ∧ t.link = s.link ∧ t.store.autoTimer = none
          ∧ t.store.queue = [⟨.autosave, .auto, 0, 0, [], some ⟨1, s.sett.vals⟩, false⟩] ∧ t.store.running ≠ none
          ∧ t.store.entry 0 = { s.store.entry 0 with state := .writing })
      ∧ (4 ≤ s.store.queue.length → (∀ x ∈ s.store.queue, x.kind ≠ .autosave) →
        exec .autosaveTimerExpiry s = .next (s.setStore
          { s.store with autoTimer := none, autoHeld := some ⟨1, s.sett.vals⟩ })))

/-- R165, R167, R168, R172 to R174, R176: the queue of the store. An operation that completes leaves it, and the next
begins; the place it frees goes to a pending calibration write, or else to a held autosave. A panel SAVE keeps the
name of a valid entry and an AUTOSAVE has none; both, and a panel RECALL, are reported by a STORE notice. After a link
reset the executing operation ends without an answer and applies nothing. A calibration write requested, and an
autosave due, take the first case of their rules that applies (that an AUTOSAVE of a protected entry is left out).
saved_at is the time at completion (log entry 26); a bad write leaves its sector spoiled (log entry 62); a good read
of a sector that holds no setup is CHECK_FAILED (log entry 41). -/
def Obligations.StoreQueue : Prop :=
  (∀ (s : State) (op : Op) (rest : List Op) (r : Running) (good : Bool) (cond : BitVec 4),
    s.store.queue = op :: rest → s.store.running = some r →
    let c : Instr := match op.kind with
      | .save => .saveComplete good | .autosave => .saveComplete good | .erase => .eraseComplete good
      | .protect => .protectComplete good | .calWrite => .calWriteComplete good | .recall => .recallComplete good cond
    let e := s.store.entry op.slot
    let calWrite : Op := ⟨.calWrite, .cal, 255, 0, [], none, false⟩
    let autosave (i : Image) : Op := ⟨.autosave, .auto, 0, 0, [], some i, false⟩
    let time := if s.link.todSet then some s.link.tod else none
    ∃ t, exec c s = .next t
      ∧ (∀ next more, rest = next :: more →
        next.kind = .calWrite ∨ (next.kind = .save ∧ next.slot ≠ op.slot ∧ (s.store.entry next.slot).isProtected = false) →
        (∃ r', t.store.running = some r' ∧ r'.silent = false ∧ r'.records = s.chans.unit.map ChanUnit.record
          ∧ r'.wasValid = decide ((t.store.entry next.slot).state = .valid ∨
              (next.kind = .save ∧ (s.store.entry next.slot).state = .valid)))
        ∧ (next.kind = .save → next.slot < 32 →
            t.store.entry next.slot = { s.store.entry next.slot with state := .writing })
        ∧ t.store.calPending = false
        ∧ (s.store.calPending = true → (∀ x ∈ rest, x.kind ≠ .calWrite) →
            t.store.queue = rest ++ [calWrite] ∧ t.store.autoHeld = s.store.autoHeld)
        ∧ (s.store.calPending = false ∨ (∃ x ∈ rest, x.kind = .calWrite) → t.store.autoHeld = none
          ∧ (s.store.autoHeld = none → t.store.queue = rest)
          ∧ (∀ i, s.store.autoHeld = some i →
            ((∀ x ∈ rest, x.kind ≠ .autosave) → t.store.queue = rest ++ [autosave i])
            ∧ ((∃ x ∈ rest, x.kind = .autosave) → t.store.queue
                = rest.map fun x => if x.kind = .autosave then { x with image := some i } else x))))
      ∧ (rest = [] → s.store.calPending = true → t.store.queue = [calWrite] ∧ t.store.calPending = false
          ∧ t.store.autoHeld = s.store.autoHeld
          ∧ ∃ r', t.store.running = some r' ∧ r'.silent = false ∧ r'.records = s.chans.unit.map ChanUnit.record)
      ∧ (rest = [] → s.store.calPending = false → s.store.autoHeld = none →
        t.store.queue = [] ∧ t.store.running = none
        ∧ (r.silent = true → t.link = s.link ∧ t.sett = s.sett)
        ∧ (r.silent = false → op.slot < 32 → op.kind = .autosave ∨ (op.kind = .save ∧ op.origin = .panel) →
          ∀ i, op.image = some i →
          let count := if r.wasValid then (if e.writeCount < 65535 then e.writeCount + 1 else e.writeCount) else 1
          let name := if op.kind = .save ∧ r.wasValid = true then e.name else []
          (good = true → op.origin = .panel ∨ op.origin = .auto →
            t.store.device.sector op.slot
              = .written ⟨name, if op.origin = .panel then .panel else .auto, time, count, false⟩ i
            ∧ t.link = s.link.present (.store op.kind op.origin op.slot .ok .valid count))
          ∧ (good = false → op.origin ≠ .link →
            t.store.device.sector op.slot = .spoiled
            ∧ t.link = s.link.present (.store op.kind op.origin op.slot .deviceFault .bad 0)))
        ∧ (r.silent = false → op.slot < 32 → op.kind = .recall → op.origin = .panel →
          (good = false ∨ (∀ h i, s.store.device.sector op.slot ≠ .written h i) → t.sett = s.sett
            ∧ t.link = s.link.present (.store .recall .panel op.slot .checkFailed .bad 0))
          ∧ (∀ h i, good = true → s.store.device.sector op.slot = .written h i → i.version = 1 →
            (s.sett.vals.inRange = true → i.vals = s.sett.vals → t.sett = s.sett
              ∧ t.link = s.link.present (.store .recall .panel op.slot .ok e.state e.writeCount))
            ∧ ((i.vals.inRange = true → t.sett.vals = i.vals)
              ∧ (s.link.mask.getLsbD 8 = true → s.link.sharedUsed ≤ 3 →
                  t.link.notices.getLast? = some (.store .recall .panel op.slot
                    (if i.vals.inRange then .ok else .clamped) e.state e.writeCount)))))))
  ∧ (∀ (s : State) (c : SelfCal) (mean16 : Nat) (op : Op) (ops : List Op),
    s.chans.selfCal = some c → c.todo = [] → s.store.running ≠ none → s.store.queue = op :: ops →
    ∃ t, exec (.calTurnEnd mean16 0) s = .next t
      ∧ ((∃ x ∈ ops, x.kind = .calWrite) → t.store = s.store)
      ∧ ((∀ x ∈ ops, x.kind ≠ .calWrite) →
        (op.kind = .calWrite ∨ 4 ≤ s.store.queue.length → t.store = { s.store with calPending := true })
        ∧ (op.kind ≠ .calWrite → s.store.queue.length < 4 →
            t.store = { s.store with queue := s.store.queue ++ [⟨.calWrite, .cal, 255, 0, [], none, false⟩] })))
  ∧ ∀ s : State, s.store.autoTimer ≠ none → s.store.running ≠ none → ∀ op ops, s.store.queue = op :: ops →
    let i : Image := ⟨1, s.sett.vals⟩
    ((∃ x ∈ ops, x.kind = .autosave) → exec .autosaveTimerExpiry s = .next (s.setStore { s.store with
        autoTimer := none
        queue := op :: ops.map fun x => if x.kind = .autosave then { x with image := some i } else x }))
    ∧ ((∀ x ∈ ops, x.kind ≠ .autosave) →
      (op.kind = .autosave ∨ 4 ≤ s.store.queue.length →
        exec .autosaveTimerExpiry s = .next (s.setStore { s.store with autoTimer := none, autoHeld := some i }))
      ∧ (op.kind ≠ .autosave → s.store.queue.length < 4 → exec .autosaveTimerExpiry s = .next (s.setStore
          { s.store with autoTimer := none
                         queue := s.store.queue ++ [⟨.autosave, .auto, 0, 0, [], some i, false⟩] })))
end

