-- ==== Sys2Proof/Laws/State.lean ====
section
/-! SUPPORT. One lemma per field per block update of the state, so that no proof unfolds a record update. -/

namespace Sys2Proof.Machine

variable (s : State)

@[simp] theorem State.setPending_pending (x : List Instr) : (s.setPending x).pending = x := rfl
@[simp] theorem State.setPending_clock (x : List Instr) : (s.setPending x).clock = s.clock := rfl
@[simp] theorem State.setPending_races (x : List Instr) : (s.setPending x).races = s.races := rfl
@[simp] theorem State.setPending_link (x : List Instr) : (s.setPending x).link = s.link := rfl
@[simp] theorem State.setPending_sett (x : List Instr) : (s.setPending x).sett = s.sett := rfl
@[simp] theorem State.setPending_chans (x : List Instr) : (s.setPending x).chans = s.chans := rfl
@[simp] theorem State.setPending_trig (x : List Instr) : (s.setPending x).trig = s.trig := rfl
@[simp] theorem State.setPending_acq (x : List Instr) : (s.setPending x).acq = s.acq := rfl
@[simp] theorem State.setPending_cap (x : List Instr) : (s.setPending x).cap = s.cap := rfl
@[simp] theorem State.setPending_rend (x : List Instr) : (s.setPending x).rend = s.rend := rfl
@[simp] theorem State.setPending_disp (x : List Instr) : (s.setPending x).disp = s.disp := rfl
@[simp] theorem State.setPending_panel (x : List Instr) : (s.setPending x).panel = s.panel := rfl
@[simp] theorem State.setPending_auth (x : List Instr) : (s.setPending x).auth = s.auth := rfl
@[simp] theorem State.setPending_store (x : List Instr) : (s.setPending x).store = s.store := rfl
@[simp] theorem State.setPending_setPending (x y : List Instr) : (s.setPending x).setPending y = s.setPending y := rfl
@[simp] theorem State.setPending_self : s.setPending s.pending = s := rfl

@[simp] theorem State.setClock_pending (x : Nat) : (s.setClock x).pending = s.pending := rfl
@[simp] theorem State.setClock_clock (x : Nat) : (s.setClock x).clock = x := rfl
@[simp] theorem State.setClock_races (x : Nat) : (s.setClock x).races = s.races := rfl
@[simp] theorem State.setClock_link (x : Nat) : (s.setClock x).link = s.link := rfl
@[simp] theorem State.setClock_sett (x : Nat) : (s.setClock x).sett = s.sett := rfl
@[simp] theorem State.setClock_chans (x : Nat) : (s.setClock x).chans = s.chans := rfl
@[simp] theorem State.setClock_trig (x : Nat) : (s.setClock x).trig = s.trig := rfl
@[simp] theorem State.setClock_acq (x : Nat) : (s.setClock x).acq = s.acq := rfl
@[simp] theorem State.setClock_cap (x : Nat) : (s.setClock x).cap = s.cap := rfl
@[simp] theorem State.setClock_rend (x : Nat) : (s.setClock x).rend = s.rend := rfl
@[simp] theorem State.setClock_disp (x : Nat) : (s.setClock x).disp = s.disp := rfl
@[simp] theorem State.setClock_panel (x : Nat) : (s.setClock x).panel = s.panel := rfl
@[simp] theorem State.setClock_auth (x : Nat) : (s.setClock x).auth = s.auth := rfl
@[simp] theorem State.setClock_store (x : Nat) : (s.setClock x).store = s.store := rfl
@[simp] theorem State.setClock_setClock (x y : Nat) : (s.setClock x).setClock y = s.setClock y := rfl
@[simp] theorem State.setClock_self : s.setClock s.clock = s := rfl

@[simp] theorem State.setRaces_pending (x : Nat) : (s.setRaces x).pending = s.pending := rfl
@[simp] theorem State.setRaces_clock (x : Nat) : (s.setRaces x).clock = s.clock := rfl
@[simp] theorem State.setRaces_races (x : Nat) : (s.setRaces x).races = x := rfl
@[simp] theorem State.setRaces_link (x : Nat) : (s.setRaces x).link = s.link := rfl
@[simp] theorem State.setRaces_sett (x : Nat) : (s.setRaces x).sett = s.sett := rfl
@[simp] theorem State.setRaces_chans (x : Nat) : (s.setRaces x).chans = s.chans := rfl
@[simp] theorem State.setRaces_trig (x : Nat) : (s.setRaces x).trig = s.trig := rfl
@[simp] theorem State.setRaces_acq (x : Nat) : (s.setRaces x).acq = s.acq := rfl
@[simp] theorem State.setRaces_cap (x : Nat) : (s.setRaces x).cap = s.cap := rfl
@[simp] theorem State.setRaces_rend (x : Nat) : (s.setRaces x).rend = s.rend := rfl
@[simp] theorem State.setRaces_disp (x : Nat) : (s.setRaces x).disp = s.disp := rfl
@[simp] theorem State.setRaces_panel (x : Nat) : (s.setRaces x).panel = s.panel := rfl
@[simp] theorem State.setRaces_auth (x : Nat) : (s.setRaces x).auth = s.auth := rfl
@[simp] theorem State.setRaces_store (x : Nat) : (s.setRaces x).store = s.store := rfl
@[simp] theorem State.setRaces_setRaces (x y : Nat) : (s.setRaces x).setRaces y = s.setRaces y := rfl
@[simp] theorem State.setRaces_self : s.setRaces s.races = s := rfl

@[simp] theorem State.setLink_pending (x : Link) : (s.setLink x).pending = s.pending := rfl
@[simp] theorem State.setLink_clock (x : Link) : (s.setLink x).clock = s.clock := rfl
@[simp] theorem State.setLink_races (x : Link) : (s.setLink x).races = s.races := rfl
@[simp] theorem State.setLink_link (x : Link) : (s.setLink x).link = x := rfl
@[simp] theorem State.setLink_sett (x : Link) : (s.setLink x).sett = s.sett := rfl
@[simp] theorem State.setLink_chans (x : Link) : (s.setLink x).chans = s.chans := rfl
@[simp] theorem State.setLink_trig (x : Link) : (s.setLink x).trig = s.trig := rfl
@[simp] theorem State.setLink_acq (x : Link) : (s.setLink x).acq = s.acq := rfl
@[simp] theorem State.setLink_cap (x : Link) : (s.setLink x).cap = s.cap := rfl
@[simp] theorem State.setLink_rend (x : Link) : (s.setLink x).rend = s.rend := rfl
@[simp] theorem State.setLink_disp (x : Link) : (s.setLink x).disp = s.disp := rfl
@[simp] theorem State.setLink_panel (x : Link) : (s.setLink x).panel = s.panel := rfl
@[simp] theorem State.setLink_auth (x : Link) : (s.setLink x).auth = s.auth := rfl
@[simp] theorem State.setLink_store (x : Link) : (s.setLink x).store = s.store := rfl
@[simp] theorem State.setLink_setLink (x y : Link) : (s.setLink x).setLink y = s.setLink y := rfl
@[simp] theorem State.setLink_self : s.setLink s.link = s := rfl

@[simp] theorem State.setSett_pending (x : Sett) : (s.setSett x).pending = s.pending := rfl
@[simp] theorem State.setSett_clock (x : Sett) : (s.setSett x).clock = s.clock := rfl
@[simp] theorem State.setSett_races (x : Sett) : (s.setSett x).races = s.races := rfl
@[simp] theorem State.setSett_link (x : Sett) : (s.setSett x).link = s.link := rfl
@[simp] theorem State.setSett_sett (x : Sett) : (s.setSett x).sett = x := rfl
@[simp] theorem State.setSett_chans (x : Sett) : (s.setSett x).chans = s.chans := rfl
@[simp] theorem State.setSett_trig (x : Sett) : (s.setSett x).trig = s.trig := rfl
@[simp] theorem State.setSett_acq (x : Sett) : (s.setSett x).acq = s.acq := rfl
@[simp] theorem State.setSett_cap (x : Sett) : (s.setSett x).cap = s.cap := rfl
@[simp] theorem State.setSett_rend (x : Sett) : (s.setSett x).rend = s.rend := rfl
@[simp] theorem State.setSett_disp (x : Sett) : (s.setSett x).disp = s.disp := rfl
@[simp] theorem State.setSett_panel (x : Sett) : (s.setSett x).panel = s.panel := rfl
@[simp] theorem State.setSett_auth (x : Sett) : (s.setSett x).auth = s.auth := rfl
@[simp] theorem State.setSett_store (x : Sett) : (s.setSett x).store = s.store := rfl
@[simp] theorem State.setSett_setSett (x y : Sett) : (s.setSett x).setSett y = s.setSett y := rfl
@[simp] theorem State.setSett_self : s.setSett s.sett = s := rfl

@[simp] theorem State.setChans_pending (x : Chans) : (s.setChans x).pending = s.pending := rfl
@[simp] theorem State.setChans_clock (x : Chans) : (s.setChans x).clock = s.clock := rfl
@[simp] theorem State.setChans_races (x : Chans) : (s.setChans x).races = s.races := rfl
@[simp] theorem State.setChans_link (x : Chans) : (s.setChans x).link = s.link := rfl
@[simp] theorem State.setChans_sett (x : Chans) : (s.setChans x).sett = s.sett := rfl
@[simp] theorem State.setChans_chans (x : Chans) : (s.setChans x).chans = x := rfl
@[simp] theorem State.setChans_trig (x : Chans) : (s.setChans x).trig = s.trig := rfl
@[simp] theorem State.setChans_acq (x : Chans) : (s.setChans x).acq = s.acq := rfl
@[simp] theorem State.setChans_cap (x : Chans) : (s.setChans x).cap = s.cap := rfl
@[simp] theorem State.setChans_rend (x : Chans) : (s.setChans x).rend = s.rend := rfl
@[simp] theorem State.setChans_disp (x : Chans) : (s.setChans x).disp = s.disp := rfl
@[simp] theorem State.setChans_panel (x : Chans) : (s.setChans x).panel = s.panel := rfl
@[simp] theorem State.setChans_auth (x : Chans) : (s.setChans x).auth = s.auth := rfl
@[simp] theorem State.setChans_store (x : Chans) : (s.setChans x).store = s.store := rfl
@[simp] theorem State.setChans_setChans (x y : Chans) : (s.setChans x).setChans y = s.setChans y := rfl
@[simp] theorem State.setChans_self : s.setChans s.chans = s := rfl

@[simp] theorem State.setTrig_pending (x : Trig) : (s.setTrig x).pending = s.pending := rfl
@[simp] theorem State.setTrig_clock (x : Trig) : (s.setTrig x).clock = s.clock := rfl
@[simp] theorem State.setTrig_races (x : Trig) : (s.setTrig x).races = s.races := rfl
@[simp] theorem State.setTrig_link (x : Trig) : (s.setTrig x).link = s.link := rfl
@[simp] theorem State.setTrig_sett (x : Trig) : (s.setTrig x).sett = s.sett := rfl
@[simp] theorem State.setTrig_chans (x : Trig) : (s.setTrig x).chans = s.chans := rfl
@[simp] theorem State.setTrig_trig (x : Trig) : (s.setTrig x).trig = x := rfl
@[simp] theorem State.setTrig_acq (x : Trig) : (s.setTrig x).acq = s.acq := rfl
@[simp] theorem State.setTrig_cap (x : Trig) : (s.setTrig x).cap = s.cap := rfl
@[simp] theorem State.setTrig_rend (x : Trig) : (s.setTrig x).rend = s.rend := rfl
@[simp] theorem State.setTrig_disp (x : Trig) : (s.setTrig x).disp = s.disp := rfl
@[simp] theorem State.setTrig_panel (x : Trig) : (s.setTrig x).panel = s.panel := rfl
@[simp] theorem State.setTrig_auth (x : Trig) : (s.setTrig x).auth = s.auth := rfl
@[simp] theorem State.setTrig_store (x : Trig) : (s.setTrig x).store = s.store := rfl
@[simp] theorem State.setTrig_setTrig (x y : Trig) : (s.setTrig x).setTrig y = s.setTrig y := rfl
@[simp] theorem State.setTrig_self : s.setTrig s.trig = s := rfl

@[simp] theorem State.setAcq_pending (x : Acq) : (s.setAcq x).pending = s.pending := rfl
@[simp] theorem State.setAcq_clock (x : Acq) : (s.setAcq x).clock = s.clock := rfl
@[simp] theorem State.setAcq_races (x : Acq) : (s.setAcq x).races = s.races := rfl
@[simp] theorem State.setAcq_link (x : Acq) : (s.setAcq x).link = s.link := rfl
@[simp] theorem State.setAcq_sett (x : Acq) : (s.setAcq x).sett = s.sett := rfl
@[simp] theorem State.setAcq_chans (x : Acq) : (s.setAcq x).chans = s.chans := rfl
@[simp] theorem State.setAcq_trig (x : Acq) : (s.setAcq x).trig = s.trig := rfl
@[simp] theorem State.setAcq_acq (x : Acq) : (s.setAcq x).acq = x := rfl
@[simp] theorem State.setAcq_cap (x : Acq) : (s.setAcq x).cap = s.cap := rfl
@[simp] theorem State.setAcq_rend (x : Acq) : (s.setAcq x).rend = s.rend := rfl
@[simp] theorem State.setAcq_disp (x : Acq) : (s.setAcq x).disp = s.disp := rfl
@[simp] theorem State.setAcq_panel (x : Acq) : (s.setAcq x).panel = s.panel := rfl
@[simp] theorem State.setAcq_auth (x : Acq) : (s.setAcq x).auth = s.auth := rfl
@[simp] theorem State.setAcq_store (x : Acq) : (s.setAcq x).store = s.store := rfl
@[simp] theorem State.setAcq_setAcq (x y : Acq) : (s.setAcq x).setAcq y = s.setAcq y := rfl
@[simp] theorem State.setAcq_self : s.setAcq s.acq = s := rfl

@[simp] theorem State.setCap_pending (x : Cap) : (s.setCap x).pending = s.pending := rfl
@[simp] theorem State.setCap_clock (x : Cap) : (s.setCap x).clock = s.clock := rfl
@[simp] theorem State.setCap_races (x : Cap) : (s.setCap x).races = s.races := rfl
@[simp] theorem State.setCap_link (x : Cap) : (s.setCap x).link = s.link := rfl
@[simp] theorem State.setCap_sett (x : Cap) : (s.setCap x).sett = s.sett := rfl
@[simp] theorem State.setCap_chans (x : Cap) : (s.setCap x).chans = s.chans := rfl
@[simp] theorem State.setCap_trig (x : Cap) : (s.setCap x).trig = s.trig := rfl
@[simp] theorem State.setCap_acq (x : Cap) : (s.setCap x).acq = s.acq := rfl
@[simp] theorem State.setCap_cap (x : Cap) : (s.setCap x).cap = x := rfl
@[simp] theorem State.setCap_rend (x : Cap) : (s.setCap x).rend = s.rend := rfl
@[simp] theorem State.setCap_disp (x : Cap) : (s.setCap x).disp = s.disp := rfl
@[simp] theorem State.setCap_panel (x : Cap) : (s.setCap x).panel = s.panel := rfl
@[simp] theorem State.setCap_auth (x : Cap) : (s.setCap x).auth = s.auth := rfl
@[simp] theorem State.setCap_store (x : Cap) : (s.setCap x).store = s.store := rfl
@[simp] theorem State.setCap_setCap (x y : Cap) : (s.setCap x).setCap y = s.setCap y := rfl
@[simp] theorem State.setCap_self : s.setCap s.cap = s := rfl

@[simp] theorem State.setRend_pending (x : Rend) : (s.setRend x).pending = s.pending := rfl
@[simp] theorem State.setRend_clock (x : Rend) : (s.setRend x).clock = s.clock := rfl
@[simp] theorem State.setRend_races (x : Rend) : (s.setRend x).races = s.races := rfl
@[simp] theorem State.setRend_link (x : Rend) : (s.setRend x).link = s.link := rfl
@[simp] theorem State.setRend_sett (x : Rend) : (s.setRend x).sett = s.sett := rfl
@[simp] theorem State.setRend_chans (x : Rend) : (s.setRend x).chans = s.chans := rfl
@[simp] theorem State.setRend_trig (x : Rend) : (s.setRend x).trig = s.trig := rfl
@[simp] theorem State.setRend_acq (x : Rend) : (s.setRend x).acq = s.acq := rfl
@[simp] theorem State.setRend_cap (x : Rend) : (s.setRend x).cap = s.cap := rfl
@[simp] theorem State.setRend_rend (x : Rend) : (s.setRend x).rend = x := rfl
@[simp] theorem State.setRend_disp (x : Rend) : (s.setRend x).disp = s.disp := rfl
@[simp] theorem State.setRend_panel (x : Rend) : (s.setRend x).panel = s.panel := rfl
@[simp] theorem State.setRend_auth (x : Rend) : (s.setRend x).auth = s.auth := rfl
@[simp] theorem State.setRend_store (x : Rend) : (s.setRend x).store = s.store := rfl
@[simp] theorem State.setRend_setRend (x y : Rend) : (s.setRend x).setRend y = s.setRend y := rfl
@[simp] theorem State.setRend_self : s.setRend s.rend = s := rfl

@[simp] theorem State.setDisp_pending (x : Disp) : (s.setDisp x).pending = s.pending := rfl
@[simp] theorem State.setDisp_clock (x : Disp) : (s.setDisp x).clock = s.clock := rfl
@[simp] theorem State.setDisp_races (x : Disp) : (s.setDisp x).races = s.races := rfl
@[simp] theorem State.setDisp_link (x : Disp) : (s.setDisp x).link = s.link := rfl
@[simp] theorem State.setDisp_sett (x : Disp) : (s.setDisp x).sett = s.sett := rfl
@[simp] theorem State.setDisp_chans (x : Disp) : (s.setDisp x).chans = s.chans := rfl
@[simp] theorem State.setDisp_trig (x : Disp) : (s.setDisp x).trig = s.trig := rfl
@[simp] theorem State.setDisp_acq (x : Disp) : (s.setDisp x).acq = s.acq := rfl
@[simp] theorem State.setDisp_cap (x : Disp) : (s.setDisp x).cap = s.cap := rfl
@[simp] theorem State.setDisp_rend (x : Disp) : (s.setDisp x).rend = s.rend := rfl
@[simp] theorem State.setDisp_disp (x : Disp) : (s.setDisp x).disp = x := rfl
@[simp] theorem State.setDisp_panel (x : Disp) : (s.setDisp x).panel = s.panel := rfl
@[simp] theorem State.setDisp_auth (x : Disp) : (s.setDisp x).auth = s.auth := rfl
@[simp] theorem State.setDisp_store (x : Disp) : (s.setDisp x).store = s.store := rfl
@[simp] theorem State.setDisp_setDisp (x y : Disp) : (s.setDisp x).setDisp y = s.setDisp y := rfl
@[simp] theorem State.setDisp_self : s.setDisp s.disp = s := rfl

@[simp] theorem State.setPanel_pending (x : Panel) : (s.setPanel x).pending = s.pending := rfl
@[simp] theorem State.setPanel_clock (x : Panel) : (s.setPanel x).clock = s.clock := rfl
@[simp] theorem State.setPanel_races (x : Panel) : (s.setPanel x).races = s.races := rfl
@[simp] theorem State.setPanel_link (x : Panel) : (s.setPanel x).link = s.link := rfl
@[simp] theorem State.setPanel_sett (x : Panel) : (s.setPanel x).sett = s.sett := rfl
@[simp] theorem State.setPanel_chans (x : Panel) : (s.setPanel x).chans = s.chans := rfl
@[simp] theorem State.setPanel_trig (x : Panel) : (s.setPanel x).trig = s.trig := rfl
@[simp] theorem State.setPanel_acq (x : Panel) : (s.setPanel x).acq = s.acq := rfl
@[simp] theorem State.setPanel_cap (x : Panel) : (s.setPanel x).cap = s.cap := rfl
@[simp] theorem State.setPanel_rend (x : Panel) : (s.setPanel x).rend = s.rend := rfl
@[simp] theorem State.setPanel_disp (x : Panel) : (s.setPanel x).disp = s.disp := rfl
@[simp] theorem State.setPanel_panel (x : Panel) : (s.setPanel x).panel = x := rfl
@[simp] theorem State.setPanel_auth (x : Panel) : (s.setPanel x).auth = s.auth := rfl
@[simp] theorem State.setPanel_store (x : Panel) : (s.setPanel x).store = s.store := rfl
@[simp] theorem State.setPanel_setPanel (x y : Panel) : (s.setPanel x).setPanel y = s.setPanel y := rfl
@[simp] theorem State.setPanel_self : s.setPanel s.panel = s := rfl

@[simp] theorem State.setAuth_pending (x : Auth) : (s.setAuth x).pending = s.pending := rfl
@[simp] theorem State.setAuth_clock (x : Auth) : (s.setAuth x).clock = s.clock := rfl
@[simp] theorem State.setAuth_races (x : Auth) : (s.setAuth x).races = s.races := rfl
@[simp] theorem State.setAuth_link (x : Auth) : (s.setAuth x).link = s.link := rfl
@[simp] theorem State.setAuth_sett (x : Auth) : (s.setAuth x).sett = s.sett := rfl
@[simp] theorem State.setAuth_chans (x : Auth) : (s.setAuth x).chans = s.chans := rfl
@[simp] theorem State.setAuth_trig (x : Auth) : (s.setAuth x).trig = s.trig := rfl
@[simp] theorem State.setAuth_acq (x : Auth) : (s.setAuth x).acq = s.acq := rfl
@[simp] theorem State.setAuth_cap (x : Auth) : (s.setAuth x).cap = s.cap := rfl
@[simp] theorem State.setAuth_rend (x : Auth) : (s.setAuth x).rend = s.rend := rfl
@[simp] theorem State.setAuth_disp (x : Auth) : (s.setAuth x).disp = s.disp := rfl
@[simp] theorem State.setAuth_panel (x : Auth) : (s.setAuth x).panel = s.panel := rfl
@[simp] theorem State.setAuth_auth (x : Auth) : (s.setAuth x).auth = x := rfl
@[simp] theorem State.setAuth_store (x : Auth) : (s.setAuth x).store = s.store := rfl
@[simp] theorem State.setAuth_setAuth (x y : Auth) : (s.setAuth x).setAuth y = s.setAuth y := rfl
@[simp] theorem State.setAuth_self : s.setAuth s.auth = s := rfl

@[simp] theorem State.setStore_pending (x : Store) : (s.setStore x).pending = s.pending := rfl
@[simp] theorem State.setStore_clock (x : Store) : (s.setStore x).clock = s.clock := rfl
@[simp] theorem State.setStore_races (x : Store) : (s.setStore x).races = s.races := rfl
@[simp] theorem State.setStore_link (x : Store) : (s.setStore x).link = s.link := rfl
@[simp] theorem State.setStore_sett (x : Store) : (s.setStore x).sett = s.sett := rfl
@[simp] theorem State.setStore_chans (x : Store) : (s.setStore x).chans = s.chans := rfl
@[simp] theorem State.setStore_trig (x : Store) : (s.setStore x).trig = s.trig := rfl
@[simp] theorem State.setStore_acq (x : Store) : (s.setStore x).acq = s.acq := rfl
@[simp] theorem State.setStore_cap (x : Store) : (s.setStore x).cap = s.cap := rfl
@[simp] theorem State.setStore_rend (x : Store) : (s.setStore x).rend = s.rend := rfl
@[simp] theorem State.setStore_disp (x : Store) : (s.setStore x).disp = s.disp := rfl
@[simp] theorem State.setStore_panel (x : Store) : (s.setStore x).panel = s.panel := rfl
@[simp] theorem State.setStore_auth (x : Store) : (s.setStore x).auth = s.auth := rfl
@[simp] theorem State.setStore_store (x : Store) : (s.setStore x).store = x := rfl
@[simp] theorem State.setStore_setStore (x y : Store) : (s.setStore x).setStore y = s.setStore y := rfl
@[simp] theorem State.setStore_self : s.setStore s.store = s := rfl

/-- Two states with the same parts are the same. -/
theorem State.ext_parts {s t : State} (h0 : s.pending = t.pending) (h1 : s.clock = t.clock) (h2 : s.link = t.link)
    (h3 : s.sett = t.sett) (h4 : s.chans = t.chans) (h5 : s.trig = t.trig) (h6 : s.acq = t.acq) (h7 : s.cap = t.cap)
    (h8 : s.rend = t.rend) (h9 : s.disp = t.disp) (h10 : s.panel = t.panel) (h11 : s.auth = t.auth)
    (h12 : s.store = t.store) (h13 : s.races = t.races) : s = t := by
  cases s; cases t; simp_all

end Sys2Proof.Machine
end

