-- ==== Sys2Proof/Laws/Frames.lean ====
section
/-! SUPPORT. What the shared operations leave alone: for each, one lemma per block of the state that it does not touch. -/

namespace Sys2Proof.Machine

variable (s : State)

@[simp] theorem State.present_pending (n : Notice) : (s.present n).pending = s.pending := rfl
@[simp] theorem State.present_clock (n : Notice) : (s.present n).clock = s.clock := rfl
@[simp] theorem State.present_races (n : Notice) : (s.present n).races = s.races := rfl
@[simp] theorem State.present_sett (n : Notice) : (s.present n).sett = s.sett := rfl
@[simp] theorem State.present_chans (n : Notice) : (s.present n).chans = s.chans := rfl
@[simp] theorem State.present_trig (n : Notice) : (s.present n).trig = s.trig := rfl
@[simp] theorem State.present_acq (n : Notice) : (s.present n).acq = s.acq := rfl
@[simp] theorem State.present_cap (n : Notice) : (s.present n).cap = s.cap := rfl
@[simp] theorem State.present_rend (n : Notice) : (s.present n).rend = s.rend := rfl
@[simp] theorem State.present_disp (n : Notice) : (s.present n).disp = s.disp := rfl
@[simp] theorem State.present_panel (n : Notice) : (s.present n).panel = s.panel := rfl
@[simp] theorem State.present_auth (n : Notice) : (s.present n).auth = s.auth := rfl
@[simp] theorem State.present_store (n : Notice) : (s.present n).store = s.store := rfl

@[simp] theorem State.reply_pending (tag : Byte) (body : List Byte) : (s.reply tag body).pending = s.pending := rfl
@[simp] theorem State.reply_clock (tag : Byte) (body : List Byte) : (s.reply tag body).clock = s.clock := rfl
@[simp] theorem State.reply_races (tag : Byte) (body : List Byte) : (s.reply tag body).races = s.races := rfl
@[simp] theorem State.reply_sett (tag : Byte) (body : List Byte) : (s.reply tag body).sett = s.sett := rfl
@[simp] theorem State.reply_chans (tag : Byte) (body : List Byte) : (s.reply tag body).chans = s.chans := rfl
@[simp] theorem State.reply_trig (tag : Byte) (body : List Byte) : (s.reply tag body).trig = s.trig := rfl
@[simp] theorem State.reply_acq (tag : Byte) (body : List Byte) : (s.reply tag body).acq = s.acq := rfl
@[simp] theorem State.reply_cap (tag : Byte) (body : List Byte) : (s.reply tag body).cap = s.cap := rfl
@[simp] theorem State.reply_rend (tag : Byte) (body : List Byte) : (s.reply tag body).rend = s.rend := rfl
@[simp] theorem State.reply_disp (tag : Byte) (body : List Byte) : (s.reply tag body).disp = s.disp := rfl
@[simp] theorem State.reply_panel (tag : Byte) (body : List Byte) : (s.reply tag body).panel = s.panel := rfl
@[simp] theorem State.reply_auth (tag : Byte) (body : List Byte) : (s.reply tag body).auth = s.auth := rfl
@[simp] theorem State.reply_store (tag : Byte) (body : List Byte) : (s.reply tag body).store = s.store := rfl

@[simp] theorem State.replyStatus_pending (tag : Byte) (st : Status) : (s.replyStatus tag st).pending = s.pending := rfl
@[simp] theorem State.replyStatus_clock (tag : Byte) (st : Status) : (s.replyStatus tag st).clock = s.clock := rfl
@[simp] theorem State.replyStatus_races (tag : Byte) (st : Status) : (s.replyStatus tag st).races = s.races := rfl
@[simp] theorem State.replyStatus_sett (tag : Byte) (st : Status) : (s.replyStatus tag st).sett = s.sett := rfl
@[simp] theorem State.replyStatus_chans (tag : Byte) (st : Status) : (s.replyStatus tag st).chans = s.chans := rfl
@[simp] theorem State.replyStatus_trig (tag : Byte) (st : Status) : (s.replyStatus tag st).trig = s.trig := rfl
@[simp] theorem State.replyStatus_acq (tag : Byte) (st : Status) : (s.replyStatus tag st).acq = s.acq := rfl
@[simp] theorem State.replyStatus_cap (tag : Byte) (st : Status) : (s.replyStatus tag st).cap = s.cap := rfl
@[simp] theorem State.replyStatus_rend (tag : Byte) (st : Status) : (s.replyStatus tag st).rend = s.rend := rfl
@[simp] theorem State.replyStatus_disp (tag : Byte) (st : Status) : (s.replyStatus tag st).disp = s.disp := rfl
@[simp] theorem State.replyStatus_panel (tag : Byte) (st : Status) : (s.replyStatus tag st).panel = s.panel := rfl
@[simp] theorem State.replyStatus_auth (tag : Byte) (st : Status) : (s.replyStatus tag st).auth = s.auth := rfl
@[simp] theorem State.replyStatus_store (tag : Byte) (st : Status) : (s.replyStatus tag st).store = s.store := rfl

@[simp] theorem State.replyBadState_pending (tag : Byte) (r : Reason) : (s.replyBadState tag r).pending = s.pending := rfl
@[simp] theorem State.replyBadState_clock (tag : Byte) (r : Reason) : (s.replyBadState tag r).clock = s.clock := rfl
@[simp] theorem State.replyBadState_races (tag : Byte) (r : Reason) : (s.replyBadState tag r).races = s.races := rfl
@[simp] theorem State.replyBadState_sett (tag : Byte) (r : Reason) : (s.replyBadState tag r).sett = s.sett := rfl
@[simp] theorem State.replyBadState_chans (tag : Byte) (r : Reason) : (s.replyBadState tag r).chans = s.chans := rfl
@[simp] theorem State.replyBadState_trig (tag : Byte) (r : Reason) : (s.replyBadState tag r).trig = s.trig := rfl
@[simp] theorem State.replyBadState_acq (tag : Byte) (r : Reason) : (s.replyBadState tag r).acq = s.acq := rfl
@[simp] theorem State.replyBadState_cap (tag : Byte) (r : Reason) : (s.replyBadState tag r).cap = s.cap := rfl
@[simp] theorem State.replyBadState_rend (tag : Byte) (r : Reason) : (s.replyBadState tag r).rend = s.rend := rfl
@[simp] theorem State.replyBadState_disp (tag : Byte) (r : Reason) : (s.replyBadState tag r).disp = s.disp := rfl
@[simp] theorem State.replyBadState_panel (tag : Byte) (r : Reason) : (s.replyBadState tag r).panel = s.panel := rfl
@[simp] theorem State.replyBadState_auth (tag : Byte) (r : Reason) : (s.replyBadState tag r).auth = s.auth := rfl
@[simp] theorem State.replyBadState_store (tag : Byte) (r : Reason) : (s.replyBadState tag r).store = s.store := rfl

@[simp] theorem State.recode_pending : (s.recode).pending = s.pending := by
  simp only [State.recode]; (repeat' split) <;> simp
@[simp] theorem State.recode_clock : (s.recode).clock = s.clock := by
  simp only [State.recode]; (repeat' split) <;> simp
@[simp] theorem State.recode_races : (s.recode).races = s.races := by
  simp only [State.recode]; (repeat' split) <;> simp
@[simp] theorem State.recode_link : (s.recode).link = s.link := by
  simp only [State.recode]; (repeat' split) <;> simp
@[simp] theorem State.recode_sett : (s.recode).sett = s.sett := by
  simp only [State.recode]; (repeat' split) <;> simp
@[simp] theorem State.recode_chans : (s.recode).chans = s.chans := by
  simp only [State.recode]; (repeat' split) <;> simp
@[simp] theorem State.recode_acq : (s.recode).acq = s.acq := by
  simp only [State.recode]; (repeat' split) <;> simp
@[simp] theorem State.recode_cap : (s.recode).cap = s.cap := by
  simp only [State.recode]; (repeat' split) <;> simp
@[simp] theorem State.recode_rend : (s.recode).rend = s.rend := by
  simp only [State.recode]; (repeat' split) <;> simp
@[simp] theorem State.recode_disp : (s.recode).disp = s.disp := by
  simp only [State.recode]; (repeat' split) <;> simp
@[simp] theorem State.recode_panel : (s.recode).panel = s.panel := by
  simp only [State.recode]; (repeat' split) <;> simp
@[simp] theorem State.recode_auth : (s.recode).auth = s.auth := by
  simp only [State.recode]; (repeat' split) <;> simp
@[simp] theorem State.recode_store : (s.recode).store = s.store := by
  simp only [State.recode]; (repeat' split) <;> simp

@[simp] theorem State.relimit_pending : (s.relimit).pending = s.pending := rfl
@[simp] theorem State.relimit_clock : (s.relimit).clock = s.clock := rfl
@[simp] theorem State.relimit_races : (s.relimit).races = s.races := rfl
@[simp] theorem State.relimit_link : (s.relimit).link = s.link := rfl
@[simp] theorem State.relimit_sett : (s.relimit).sett = s.sett := rfl
@[simp] theorem State.relimit_chans : (s.relimit).chans = s.chans := rfl
@[simp] theorem State.relimit_acq : (s.relimit).acq = s.acq := rfl
@[simp] theorem State.relimit_cap : (s.relimit).cap = s.cap := rfl
@[simp] theorem State.relimit_rend : (s.relimit).rend = s.rend := rfl
@[simp] theorem State.relimit_disp : (s.relimit).disp = s.disp := rfl
@[simp] theorem State.relimit_panel : (s.relimit).panel = s.panel := rfl
@[simp] theorem State.relimit_auth : (s.relimit).auth = s.auth := rfl
@[simp] theorem State.relimit_store : (s.relimit).store = s.store := rfl

@[simp] theorem State.examineMemory_pending : (s.examineMemory).pending = s.pending := by
  unfold State.examineMemory; (repeat' split) <;> simp
@[simp] theorem State.examineMemory_clock : (s.examineMemory).clock = s.clock := by
  unfold State.examineMemory; (repeat' split) <;> simp
@[simp] theorem State.examineMemory_races : (s.examineMemory).races = s.races := by
  unfold State.examineMemory; (repeat' split) <;> simp
@[simp] theorem State.examineMemory_link : (s.examineMemory).link = s.link := by
  unfold State.examineMemory; (repeat' split) <;> simp
@[simp] theorem State.examineMemory_sett : (s.examineMemory).sett = s.sett := by
  unfold State.examineMemory; (repeat' split) <;> simp
@[simp] theorem State.examineMemory_chans : (s.examineMemory).chans = s.chans := by
  unfold State.examineMemory; (repeat' split) <;> simp
@[simp] theorem State.examineMemory_trig : (s.examineMemory).trig = s.trig := by
  unfold State.examineMemory; (repeat' split) <;> simp
@[simp] theorem State.examineMemory_acq : (s.examineMemory).acq = s.acq := by
  unfold State.examineMemory; (repeat' split) <;> simp
@[simp] theorem State.examineMemory_rend : (s.examineMemory).rend = s.rend := by
  unfold State.examineMemory; (repeat' split) <;> simp
@[simp] theorem State.examineMemory_disp : (s.examineMemory).disp = s.disp := by
  unfold State.examineMemory; (repeat' split) <;> simp
@[simp] theorem State.examineMemory_panel : (s.examineMemory).panel = s.panel := by
  unfold State.examineMemory; (repeat' split) <;> simp
@[simp] theorem State.examineMemory_auth : (s.examineMemory).auth = s.auth := by
  unfold State.examineMemory; (repeat' split) <;> simp
@[simp] theorem State.examineMemory_store : (s.examineMemory).store = s.store := by
  unfold State.examineMemory; (repeat' split) <;> simp

@[simp] theorem State.beginWake_pending : (s.beginWake).pending = s.pending := by
  unfold State.beginWake; (repeat' split) <;> simp
@[simp] theorem State.beginWake_clock : (s.beginWake).clock = s.clock := by
  unfold State.beginWake; (repeat' split) <;> simp
@[simp] theorem State.beginWake_races : (s.beginWake).races = s.races := by
  unfold State.beginWake; (repeat' split) <;> simp
@[simp] theorem State.beginWake_link : (s.beginWake).link = s.link := by
  unfold State.beginWake; (repeat' split) <;> simp
@[simp] theorem State.beginWake_sett : (s.beginWake).sett = s.sett := by
  unfold State.beginWake; (repeat' split) <;> simp
@[simp] theorem State.beginWake_chans : (s.beginWake).chans = s.chans := by
  unfold State.beginWake; (repeat' split) <;> simp
@[simp] theorem State.beginWake_trig : (s.beginWake).trig = s.trig := by
  unfold State.beginWake; (repeat' split) <;> simp
@[simp] theorem State.beginWake_acq : (s.beginWake).acq = s.acq := by
  unfold State.beginWake; (repeat' split) <;> simp
@[simp] theorem State.beginWake_rend : (s.beginWake).rend = s.rend := by
  unfold State.beginWake; (repeat' split) <;> simp
@[simp] theorem State.beginWake_disp : (s.beginWake).disp = s.disp := by
  unfold State.beginWake; (repeat' split) <;> simp
@[simp] theorem State.beginWake_panel : (s.beginWake).panel = s.panel := by
  unfold State.beginWake; (repeat' split) <;> simp
@[simp] theorem State.beginWake_auth : (s.beginWake).auth = s.auth := by
  unfold State.beginWake; (repeat' split) <;> simp
@[simp] theorem State.beginWake_store : (s.beginWake).store = s.store := by
  unfold State.beginWake; (repeat' split) <;> simp

@[simp] theorem State.acqNotice_pending (ev : AcqEvent) (c : StopCause) : (s.acqNotice ev c).pending = s.pending := rfl
@[simp] theorem State.acqNotice_clock (ev : AcqEvent) (c : StopCause) : (s.acqNotice ev c).clock = s.clock := rfl
@[simp] theorem State.acqNotice_races (ev : AcqEvent) (c : StopCause) : (s.acqNotice ev c).races = s.races := rfl
@[simp] theorem State.acqNotice_sett (ev : AcqEvent) (c : StopCause) : (s.acqNotice ev c).sett = s.sett := rfl
@[simp] theorem State.acqNotice_chans (ev : AcqEvent) (c : StopCause) : (s.acqNotice ev c).chans = s.chans := rfl
@[simp] theorem State.acqNotice_trig (ev : AcqEvent) (c : StopCause) : (s.acqNotice ev c).trig = s.trig := rfl
@[simp] theorem State.acqNotice_acq (ev : AcqEvent) (c : StopCause) : (s.acqNotice ev c).acq = s.acq := rfl
@[simp] theorem State.acqNotice_cap (ev : AcqEvent) (c : StopCause) : (s.acqNotice ev c).cap = s.cap := rfl
@[simp] theorem State.acqNotice_rend (ev : AcqEvent) (c : StopCause) : (s.acqNotice ev c).rend = s.rend := rfl
@[simp] theorem State.acqNotice_disp (ev : AcqEvent) (c : StopCause) : (s.acqNotice ev c).disp = s.disp := rfl
@[simp] theorem State.acqNotice_panel (ev : AcqEvent) (c : StopCause) : (s.acqNotice ev c).panel = s.panel := rfl
@[simp] theorem State.acqNotice_auth (ev : AcqEvent) (c : StopCause) : (s.acqNotice ev c).auth = s.auth := rfl
@[simp] theorem State.acqNotice_store (ev : AcqEvent) (c : StopCause) : (s.acqNotice ev c).store = s.store := rfl

@[simp] theorem State.enterStopped_pending (c : StopCause) : (s.enterStopped c).pending = s.pending := by
  simp [State.enterStopped]
@[simp] theorem State.enterStopped_clock (c : StopCause) : (s.enterStopped c).clock = s.clock := by
  simp [State.enterStopped]
@[simp] theorem State.enterStopped_races (c : StopCause) : (s.enterStopped c).races = s.races := by
  simp [State.enterStopped]
@[simp] theorem State.enterStopped_sett (c : StopCause) : (s.enterStopped c).sett = s.sett := by
  simp [State.enterStopped]
@[simp] theorem State.enterStopped_chans (c : StopCause) : (s.enterStopped c).chans = s.chans := by
  simp [State.enterStopped]
@[simp] theorem State.enterStopped_rend (c : StopCause) : (s.enterStopped c).rend = s.rend := by
  simp [State.enterStopped]
@[simp] theorem State.enterStopped_disp (c : StopCause) : (s.enterStopped c).disp = s.disp := by
  simp [State.enterStopped]
@[simp] theorem State.enterStopped_panel (c : StopCause) : (s.enterStopped c).panel = s.panel := by
  simp [State.enterStopped]
@[simp] theorem State.enterStopped_auth (c : StopCause) : (s.enterStopped c).auth = s.auth := by
  simp [State.enterStopped]
@[simp] theorem State.enterStopped_store (c : StopCause) : (s.enterStopped c).store = s.store := by
  simp [State.enterStopped]

@[simp] theorem State.acceptTrigger_pending (f : Forced) : (s.acceptTrigger f).pending = s.pending := rfl
@[simp] theorem State.acceptTrigger_clock (f : Forced) : (s.acceptTrigger f).clock = s.clock := rfl
@[simp] theorem State.acceptTrigger_races (f : Forced) : (s.acceptTrigger f).races = s.races := rfl
@[simp] theorem State.acceptTrigger_link (f : Forced) : (s.acceptTrigger f).link = s.link := rfl
@[simp] theorem State.acceptTrigger_sett (f : Forced) : (s.acceptTrigger f).sett = s.sett := rfl
@[simp] theorem State.acceptTrigger_chans (f : Forced) : (s.acceptTrigger f).chans = s.chans := rfl
@[simp] theorem State.acceptTrigger_rend (f : Forced) : (s.acceptTrigger f).rend = s.rend := rfl
@[simp] theorem State.acceptTrigger_disp (f : Forced) : (s.acceptTrigger f).disp = s.disp := rfl
@[simp] theorem State.acceptTrigger_panel (f : Forced) : (s.acceptTrigger f).panel = s.panel := rfl
@[simp] theorem State.acceptTrigger_auth (f : Forced) : (s.acceptTrigger f).auth = s.auth := rfl
@[simp] theorem State.acceptTrigger_store (f : Forced) : (s.acceptTrigger f).store = s.store := rfl

@[simp] theorem State.startAuto_pending : (s.startAuto).pending = s.pending := rfl
@[simp] theorem State.startAuto_clock : (s.startAuto).clock = s.clock := rfl
@[simp] theorem State.startAuto_races : (s.startAuto).races = s.races := rfl
@[simp] theorem State.startAuto_link : (s.startAuto).link = s.link := rfl
@[simp] theorem State.startAuto_sett : (s.startAuto).sett = s.sett := rfl
@[simp] theorem State.startAuto_chans : (s.startAuto).chans = s.chans := rfl
@[simp] theorem State.startAuto_acq : (s.startAuto).acq = s.acq := rfl
@[simp] theorem State.startAuto_cap : (s.startAuto).cap = s.cap := rfl
@[simp] theorem State.startAuto_rend : (s.startAuto).rend = s.rend := rfl
@[simp] theorem State.startAuto_disp : (s.startAuto).disp = s.disp := rfl
@[simp] theorem State.startAuto_panel : (s.startAuto).panel = s.panel := rfl
@[simp] theorem State.startAuto_auth : (s.startAuto).auth = s.auth := rfl
@[simp] theorem State.startAuto_store : (s.startAuto).store = s.store := rfl

@[simp] theorem State.enterReady_pending : (s.enterReady).pending = s.pending := by
  simp only [State.enterReady]; (repeat' split) <;> simp
@[simp] theorem State.enterReady_clock : (s.enterReady).clock = s.clock := by
  simp only [State.enterReady]; (repeat' split) <;> simp
@[simp] theorem State.enterReady_races : (s.enterReady).races = s.races := by
  simp only [State.enterReady]; (repeat' split) <;> simp
@[simp] theorem State.enterReady_link : (s.enterReady).link = s.link := by
  simp only [State.enterReady]; (repeat' split) <;> simp
@[simp] theorem State.enterReady_sett : (s.enterReady).sett = s.sett := by
  simp only [State.enterReady]; (repeat' split) <;> simp
@[simp] theorem State.enterReady_chans : (s.enterReady).chans = s.chans := by
  simp only [State.enterReady]; (repeat' split) <;> simp
@[simp] theorem State.enterReady_rend : (s.enterReady).rend = s.rend := by
  simp only [State.enterReady]; (repeat' split) <;> simp
@[simp] theorem State.enterReady_disp : (s.enterReady).disp = s.disp := by
  simp only [State.enterReady]; (repeat' split) <;> simp
@[simp] theorem State.enterReady_panel : (s.enterReady).panel = s.panel := by
  simp only [State.enterReady]; (repeat' split) <;> simp
@[simp] theorem State.enterReady_auth : (s.enterReady).auth = s.auth := by
  simp only [State.enterReady]; (repeat' split) <;> simp
@[simp] theorem State.enterReady_store : (s.enterReady).store = s.store := by
  simp only [State.enterReady]; (repeat' split) <;> simp

@[simp] theorem State.reachDepth_pending : (s.reachDepth).pending = s.pending := by
  simp only [State.reachDepth]; (repeat' split) <;> simp
@[simp] theorem State.reachDepth_clock : (s.reachDepth).clock = s.clock := by
  simp only [State.reachDepth]; (repeat' split) <;> simp
@[simp] theorem State.reachDepth_races : (s.reachDepth).races = s.races := by
  simp only [State.reachDepth]; (repeat' split) <;> simp
@[simp] theorem State.reachDepth_link : (s.reachDepth).link = s.link := by
  simp only [State.reachDepth]; (repeat' split) <;> simp
@[simp] theorem State.reachDepth_sett : (s.reachDepth).sett = s.sett := by
  simp only [State.reachDepth]; (repeat' split) <;> simp
@[simp] theorem State.reachDepth_chans : (s.reachDepth).chans = s.chans := by
  simp only [State.reachDepth]; (repeat' split) <;> simp
@[simp] theorem State.reachDepth_rend : (s.reachDepth).rend = s.rend := by
  simp only [State.reachDepth]; (repeat' split) <;> simp
@[simp] theorem State.reachDepth_disp : (s.reachDepth).disp = s.disp := by
  simp only [State.reachDepth]; (repeat' split) <;> simp
@[simp] theorem State.reachDepth_panel : (s.reachDepth).panel = s.panel := by
  simp only [State.reachDepth]; (repeat' split) <;> simp
@[simp] theorem State.reachDepth_auth : (s.reachDepth).auth = s.auth := by
  simp only [State.reachDepth]; (repeat' split) <;> simp
@[simp] theorem State.reachDepth_store : (s.reachDepth).store = s.store := by
  simp only [State.reachDepth]; (repeat' split) <;> simp

@[simp] theorem State.giveSegment_pending (i : Nat) : (s.giveSegment i).pending = s.pending := by
  simp only [State.giveSegment]; (repeat' split) <;> simp
@[simp] theorem State.giveSegment_clock (i : Nat) : (s.giveSegment i).clock = s.clock := by
  simp only [State.giveSegment]; (repeat' split) <;> simp
@[simp] theorem State.giveSegment_races (i : Nat) : (s.giveSegment i).races = s.races := by
  simp only [State.giveSegment]; (repeat' split) <;> simp
@[simp] theorem State.giveSegment_link (i : Nat) : (s.giveSegment i).link = s.link := by
  simp only [State.giveSegment]; (repeat' split) <;> simp
@[simp] theorem State.giveSegment_sett (i : Nat) : (s.giveSegment i).sett = s.sett := by
  simp only [State.giveSegment]; (repeat' split) <;> simp
@[simp] theorem State.giveSegment_chans (i : Nat) : (s.giveSegment i).chans = s.chans := by
  simp only [State.giveSegment]; (repeat' split) <;> simp
@[simp] theorem State.giveSegment_rend (i : Nat) : (s.giveSegment i).rend = s.rend := by
  simp only [State.giveSegment]; (repeat' split) <;> simp
@[simp] theorem State.giveSegment_disp (i : Nat) : (s.giveSegment i).disp = s.disp := by
  simp only [State.giveSegment]; (repeat' split) <;> simp
@[simp] theorem State.giveSegment_panel (i : Nat) : (s.giveSegment i).panel = s.panel := by
  simp only [State.giveSegment]; (repeat' split) <;> simp
@[simp] theorem State.giveSegment_auth (i : Nat) : (s.giveSegment i).auth = s.auth := by
  simp only [State.giveSegment]; (repeat' split) <;> simp
@[simp] theorem State.giveSegment_store (i : Nat) : (s.giveSegment i).store = s.store := by
  simp only [State.giveSegment]; (repeat' split) <;> simp

@[simp] theorem State.requestSegment_pending : (s.requestSegment).pending = s.pending := by
  unfold State.requestSegment; (repeat' split) <;> simp
@[simp] theorem State.requestSegment_clock : (s.requestSegment).clock = s.clock := by
  unfold State.requestSegment; (repeat' split) <;> simp
@[simp] theorem State.requestSegment_races : (s.requestSegment).races = s.races := by
  unfold State.requestSegment; (repeat' split) <;> simp
@[simp] theorem State.requestSegment_sett : (s.requestSegment).sett = s.sett := by
  unfold State.requestSegment; (repeat' split) <;> simp
@[simp] theorem State.requestSegment_chans : (s.requestSegment).chans = s.chans := by
  unfold State.requestSegment; (repeat' split) <;> simp
@[simp] theorem State.requestSegment_rend : (s.requestSegment).rend = s.rend := by
  unfold State.requestSegment; (repeat' split) <;> simp
@[simp] theorem State.requestSegment_disp : (s.requestSegment).disp = s.disp := by
  unfold State.requestSegment; (repeat' split) <;> simp
@[simp] theorem State.requestSegment_panel : (s.requestSegment).panel = s.panel := by
  unfold State.requestSegment; (repeat' split) <;> simp
@[simp] theorem State.requestSegment_auth : (s.requestSegment).auth = s.auth := by
  unfold State.requestSegment; (repeat' split) <;> simp
@[simp] theorem State.requestSegment_store : (s.requestSegment).store = s.store := by
  unfold State.requestSegment; (repeat' split) <;> simp

@[simp] theorem State.toArming_pending : (s.toArming).pending = s.pending := rfl
@[simp] theorem State.toArming_clock : (s.toArming).clock = s.clock := rfl
@[simp] theorem State.toArming_races : (s.toArming).races = s.races := rfl
@[simp] theorem State.toArming_link : (s.toArming).link = s.link := rfl
@[simp] theorem State.toArming_sett : (s.toArming).sett = s.sett := rfl
@[simp] theorem State.toArming_chans : (s.toArming).chans = s.chans := rfl
@[simp] theorem State.toArming_cap : (s.toArming).cap = s.cap := rfl
@[simp] theorem State.toArming_rend : (s.toArming).rend = s.rend := rfl
@[simp] theorem State.toArming_disp : (s.toArming).disp = s.disp := rfl
@[simp] theorem State.toArming_panel : (s.toArming).panel = s.panel := rfl
@[simp] theorem State.toArming_auth : (s.toArming).auth = s.auth := rfl
@[simp] theorem State.toArming_store : (s.toArming).store = s.store := rfl

@[simp] theorem State.seekSegment_pending : (s.seekSegment).pending = s.pending := by
  unfold State.seekSegment; (repeat' split) <;> simp
@[simp] theorem State.seekSegment_clock : (s.seekSegment).clock = s.clock := by
  unfold State.seekSegment; (repeat' split) <;> simp
@[simp] theorem State.seekSegment_races : (s.seekSegment).races = s.races := by
  unfold State.seekSegment; (repeat' split) <;> simp
@[simp] theorem State.seekSegment_sett : (s.seekSegment).sett = s.sett := by
  unfold State.seekSegment; (repeat' split) <;> simp
@[simp] theorem State.seekSegment_chans : (s.seekSegment).chans = s.chans := by
  unfold State.seekSegment; (repeat' split) <;> simp
@[simp] theorem State.seekSegment_rend : (s.seekSegment).rend = s.rend := by
  unfold State.seekSegment; (repeat' split) <;> simp
@[simp] theorem State.seekSegment_disp : (s.seekSegment).disp = s.disp := by
  unfold State.seekSegment; (repeat' split) <;> simp
@[simp] theorem State.seekSegment_panel : (s.seekSegment).panel = s.panel := by
  unfold State.seekSegment; (repeat' split) <;> simp
@[simp] theorem State.seekSegment_auth : (s.seekSegment).auth = s.auth := by
  unfold State.seekSegment; (repeat' split) <;> simp
@[simp] theorem State.seekSegment_store : (s.seekSegment).store = s.store := by
  unfold State.seekSegment; (repeat' split) <;> simp

/-- R81: a hold that leaves changes CAP alone. -/
theorem State.dropHold_parts (draw : Bool) (i : Nat) : ∃ c, (s.dropHold draw i).1 = s.setCap c := by
  unfold State.dropHold; split <;> exact ⟨_, rfl⟩

@[simp] theorem State.dropHold_pending (draw : Bool) (i : Nat) : (s.dropHold draw i).1.pending = s.pending := by
  obtain ⟨c, h⟩ := s.dropHold_parts draw i; simp [h]
@[simp] theorem State.dropHold_clock (draw : Bool) (i : Nat) : (s.dropHold draw i).1.clock = s.clock := by
  obtain ⟨c, h⟩ := s.dropHold_parts draw i; simp [h]
@[simp] theorem State.dropHold_races (draw : Bool) (i : Nat) : (s.dropHold draw i).1.races = s.races := by
  obtain ⟨c, h⟩ := s.dropHold_parts draw i; simp [h]
@[simp] theorem State.dropHold_link (draw : Bool) (i : Nat) : (s.dropHold draw i).1.link = s.link := by
  obtain ⟨c, h⟩ := s.dropHold_parts draw i; simp [h]
@[simp] theorem State.dropHold_sett (draw : Bool) (i : Nat) : (s.dropHold draw i).1.sett = s.sett := by
  obtain ⟨c, h⟩ := s.dropHold_parts draw i; simp [h]
@[simp] theorem State.dropHold_chans (draw : Bool) (i : Nat) : (s.dropHold draw i).1.chans = s.chans := by
  obtain ⟨c, h⟩ := s.dropHold_parts draw i; simp [h]
@[simp] theorem State.dropHold_trig (draw : Bool) (i : Nat) : (s.dropHold draw i).1.trig = s.trig := by
  obtain ⟨c, h⟩ := s.dropHold_parts draw i; simp [h]
@[simp] theorem State.dropHold_acq (draw : Bool) (i : Nat) : (s.dropHold draw i).1.acq = s.acq := by
  obtain ⟨c, h⟩ := s.dropHold_parts draw i; simp [h]
@[simp] theorem State.dropHold_disp (draw : Bool) (i : Nat) : (s.dropHold draw i).1.disp = s.disp := by
  obtain ⟨c, h⟩ := s.dropHold_parts draw i; simp [h]
@[simp] theorem State.dropHold_panel (draw : Bool) (i : Nat) : (s.dropHold draw i).1.panel = s.panel := by
  obtain ⟨c, h⟩ := s.dropHold_parts draw i; simp [h]
@[simp] theorem State.dropHold_auth (draw : Bool) (i : Nat) : (s.dropHold draw i).1.auth = s.auth := by
  obtain ⟨c, h⟩ := s.dropHold_parts draw i; simp [h]
@[simp] theorem State.dropHold_store (draw : Bool) (i : Nat) : (s.dropHold draw i).1.store = s.store := by
  obtain ⟨c, h⟩ := s.dropHold_parts draw i; simp [h]
@[simp] theorem State.dropHold_rend (draw : Bool) (i : Nat) : (s.dropHold draw i).1.rend = s.rend := by
  obtain ⟨c, h⟩ := s.dropHold_parts draw i; simp [h]

@[simp] theorem State.releaseHold_pending (draw : Bool) (i : Nat) : (s.releaseHold draw i).pending = s.pending := by
  simp only [State.releaseHold]; (repeat' split) <;> simp
@[simp] theorem State.releaseHold_clock (draw : Bool) (i : Nat) : (s.releaseHold draw i).clock = s.clock := by
  simp only [State.releaseHold]; (repeat' split) <;> simp
@[simp] theorem State.releaseHold_races (draw : Bool) (i : Nat) : (s.releaseHold draw i).races = s.races := by
  simp only [State.releaseHold]; (repeat' split) <;> simp
@[simp] theorem State.releaseHold_sett (draw : Bool) (i : Nat) : (s.releaseHold draw i).sett = s.sett := by
  simp only [State.releaseHold]; (repeat' split) <;> simp
@[simp] theorem State.releaseHold_chans (draw : Bool) (i : Nat) : (s.releaseHold draw i).chans = s.chans := by
  simp only [State.releaseHold]; (repeat' split) <;> simp
@[simp] theorem State.releaseHold_rend (draw : Bool) (i : Nat) : (s.releaseHold draw i).rend = s.rend := by
  simp only [State.releaseHold]; (repeat' split) <;> simp
@[simp] theorem State.releaseHold_disp (draw : Bool) (i : Nat) : (s.releaseHold draw i).disp = s.disp := by
  simp only [State.releaseHold]; (repeat' split) <;> simp
@[simp] theorem State.releaseHold_panel (draw : Bool) (i : Nat) : (s.releaseHold draw i).panel = s.panel := by
  simp only [State.releaseHold]; (repeat' split) <;> simp
@[simp] theorem State.releaseHold_auth (draw : Bool) (i : Nat) : (s.releaseHold draw i).auth = s.auth := by
  simp only [State.releaseHold]; (repeat' split) <;> simp
@[simp] theorem State.releaseHold_store (draw : Bool) (i : Nat) : (s.releaseHold draw i).store = s.store := by
  simp only [State.releaseHold]; (repeat' split) <;> simp

/-- R94: a hold that is granted begins a pass and changes nothing but CAP and REND. -/
theorem State.askDraw_parts {t : State} {i : Nat} (h : s.askDraw i = some t) : ∃ c r, t = (s.setCap c).setRend r := by
  unfold State.askDraw at h
  split at h
  · exact ⟨_, _, (Option.some.inj h).symm⟩
  · cases h

/-- R93: so does an examination. -/
theorem State.examineDraw_parts : ∃ c r, s.examineDraw = (s.setCap c).setRend r := by
  unfold State.examineDraw
  split
  · next i _ =>
    cases h : s.askDraw i with
    | none => exact ⟨_, _, rfl⟩
    | some t => exact s.askDraw_parts h
  · exact ⟨_, _, rfl⟩

/-- R78, R94: a part of the state that ACQ's request leaves alone, and that is none of CAP's, REND's and the count of the
choices, is left alone where REND and ACQ ask together. -/
theorem State.contend_frame {α : Type} (f : State → α) (ask : State → State) (hc : ∀ s x, f (State.setCap s x) = f s)
    (hr : ∀ s x, f (State.setRend s x) = f s) (hn : ∀ s x, f (State.setRaces s x) = f s) (ha : ∀ s, f (ask s) = f s) :
    f (s.contend ask) = f s := by
  have he : ∀ s : State, f s.examineDraw = f s := by
    intro s
    obtain ⟨c, r, h⟩ := s.examineDraw_parts
    rw [h, hr, hc]
  unfold State.contend
  split
  · exact ha s
  · split
    · next h =>
      obtain ⟨c, r, h⟩ := State.askDraw_parts _ h
      rw [h, hr, hc, ha]
    · rw [hn]
      split
      · rw [ha, he]
      · rw [he, ha]

@[simp] theorem State.examineDraw_pending : (s.examineDraw).pending = s.pending := by
  obtain ⟨c, r, h⟩ := s.examineDraw_parts; simp [h]
@[simp] theorem State.examineDraw_clock : (s.examineDraw).clock = s.clock := by
  obtain ⟨c, r, h⟩ := s.examineDraw_parts; simp [h]
@[simp] theorem State.examineDraw_races : (s.examineDraw).races = s.races := by
  obtain ⟨c, r, h⟩ := s.examineDraw_parts; simp [h]
@[simp] theorem State.examineDraw_link : (s.examineDraw).link = s.link := by
  obtain ⟨c, r, h⟩ := s.examineDraw_parts; simp [h]
@[simp] theorem State.examineDraw_sett : (s.examineDraw).sett = s.sett := by
  obtain ⟨c, r, h⟩ := s.examineDraw_parts; simp [h]
@[simp] theorem State.examineDraw_chans : (s.examineDraw).chans = s.chans := by
  obtain ⟨c, r, h⟩ := s.examineDraw_parts; simp [h]
@[simp] theorem State.examineDraw_trig : (s.examineDraw).trig = s.trig := by
  obtain ⟨c, r, h⟩ := s.examineDraw_parts; simp [h]
@[simp] theorem State.examineDraw_acq : (s.examineDraw).acq = s.acq := by
  obtain ⟨c, r, h⟩ := s.examineDraw_parts; simp [h]
@[simp] theorem State.examineDraw_disp : (s.examineDraw).disp = s.disp := by
  obtain ⟨c, r, h⟩ := s.examineDraw_parts; simp [h]
@[simp] theorem State.examineDraw_panel : (s.examineDraw).panel = s.panel := by
  obtain ⟨c, r, h⟩ := s.examineDraw_parts; simp [h]
@[simp] theorem State.examineDraw_auth : (s.examineDraw).auth = s.auth := by
  obtain ⟨c, r, h⟩ := s.examineDraw_parts; simp [h]
@[simp] theorem State.examineDraw_store : (s.examineDraw).store = s.store := by
  obtain ⟨c, r, h⟩ := s.examineDraw_parts; simp [h]

@[simp] theorem State.endPass_pending (p : Pass) : (s.endPass p).pending = s.pending := by
  simp [State.endPass]
@[simp] theorem State.endPass_clock (p : Pass) : (s.endPass p).clock = s.clock := by
  simp [State.endPass]
@[simp] theorem State.endPass_races (p : Pass) : (s.endPass p).races = s.races := by
  simp [State.endPass]
@[simp] theorem State.endPass_sett (p : Pass) : (s.endPass p).sett = s.sett := by
  simp [State.endPass]
@[simp] theorem State.endPass_chans (p : Pass) : (s.endPass p).chans = s.chans := by
  simp [State.endPass]
@[simp] theorem State.endPass_disp (p : Pass) : (s.endPass p).disp = s.disp := by
  simp [State.endPass]
@[simp] theorem State.endPass_panel (p : Pass) : (s.endPass p).panel = s.panel := by
  simp [State.endPass]
@[simp] theorem State.endPass_auth (p : Pass) : (s.endPass p).auth = s.auth := by
  simp [State.endPass]
@[simp] theorem State.endPass_store (p : Pass) : (s.endPass p).store = s.store := by
  simp [State.endPass]

@[simp] theorem State.redraw_pending (m : ChSet) : (s.redraw m).pending = s.pending := by
  simp only [State.redraw]
  have h := fun s : State => s.contend_frame State.pending State.requestSegment (by simp) (by simp) (by simp) (by simp)
  (repeat' split) <;> simp [h]
@[simp] theorem State.redraw_clock (m : ChSet) : (s.redraw m).clock = s.clock := by
  simp only [State.redraw]
  have h := fun s : State => s.contend_frame State.clock State.requestSegment (by simp) (by simp) (by simp) (by simp)
  (repeat' split) <;> simp [h]
@[simp] theorem State.redraw_sett (m : ChSet) : (s.redraw m).sett = s.sett := by
  simp only [State.redraw]
  have h := fun s : State => s.contend_frame State.sett State.requestSegment (by simp) (by simp) (by simp) (by simp)
  (repeat' split) <;> simp [h]
@[simp] theorem State.redraw_chans (m : ChSet) : (s.redraw m).chans = s.chans := by
  simp only [State.redraw]
  have h := fun s : State => s.contend_frame State.chans State.requestSegment (by simp) (by simp) (by simp) (by simp)
  (repeat' split) <;> simp [h]
@[simp] theorem State.redraw_disp (m : ChSet) : (s.redraw m).disp = s.disp := by
  simp only [State.redraw]
  have h := fun s : State => s.contend_frame State.disp State.requestSegment (by simp) (by simp) (by simp) (by simp)
  (repeat' split) <;> simp [h]
@[simp] theorem State.redraw_panel (m : ChSet) : (s.redraw m).panel = s.panel := by
  simp only [State.redraw]
  have h := fun s : State => s.contend_frame State.panel State.requestSegment (by simp) (by simp) (by simp) (by simp)
  (repeat' split) <;> simp [h]
@[simp] theorem State.redraw_auth (m : ChSet) : (s.redraw m).auth = s.auth := by
  simp only [State.redraw]
  have h := fun s : State => s.contend_frame State.auth State.requestSegment (by simp) (by simp) (by simp) (by simp)
  (repeat' split) <;> simp [h]
@[simp] theorem State.redraw_store (m : ChSet) : (s.redraw m).store = s.store := by
  simp only [State.redraw]
  have h := fun s : State => s.contend_frame State.store State.requestSegment (by simp) (by simp) (by simp) (by simp)
  (repeat' split) <;> simp [h]

@[simp] theorem State.rendRestart_pending : (s.rendRestart).pending = s.pending := by
  simp [State.rendRestart]
@[simp] theorem State.rendRestart_clock : (s.rendRestart).clock = s.clock := by
  simp [State.rendRestart]
@[simp] theorem State.rendRestart_races : (s.rendRestart).races = s.races := by
  simp [State.rendRestart]
@[simp] theorem State.rendRestart_link : (s.rendRestart).link = s.link := by
  simp [State.rendRestart]
@[simp] theorem State.rendRestart_sett : (s.rendRestart).sett = s.sett := by
  simp [State.rendRestart]
@[simp] theorem State.rendRestart_chans : (s.rendRestart).chans = s.chans := by
  simp [State.rendRestart]
@[simp] theorem State.rendRestart_trig : (s.rendRestart).trig = s.trig := by
  simp [State.rendRestart]
@[simp] theorem State.rendRestart_acq : (s.rendRestart).acq = s.acq := by
  simp [State.rendRestart]
@[simp] theorem State.rendRestart_disp : (s.rendRestart).disp = s.disp := by
  simp [State.rendRestart]
@[simp] theorem State.rendRestart_panel : (s.rendRestart).panel = s.panel := by
  simp [State.rendRestart]
@[simp] theorem State.rendRestart_auth : (s.rendRestart).auth = s.auth := by
  simp [State.rendRestart]
@[simp] theorem State.rendRestart_store : (s.rendRestart).store = s.store := by
  simp [State.rendRestart]

theorem State.closeOpening_parts (tag : Byte) (w : List Byte) : ∃ l, s.closeOpening tag w = s.setLink l := by
  unfold State.closeOpening
  have h : ∀ (w : List Byte) (s' : State), (∃ l, s' = s.setLink l) →
      ∃ l, w.foldl (fun s t => s.replyBadState t .noReadout) s' = s.setLink l := by
    intro w
    induction w with
    | nil => intro s' hs; exact hs
    | cons t w ih =>
      intro s' hs
      obtain ⟨l, rfl⟩ := hs
      exact ih _ ⟨_, rfl⟩
  exact h w _ ⟨_, rfl⟩

@[simp] theorem State.abandonReadout_pending : (s.abandonReadout).pending = s.pending := by
  unfold State.abandonReadout
  split
  · rfl
  · obtain ⟨l, hl⟩ := State.closeOpening_parts (s.setCap { s.cap with readout := .closed }) _ _
    rw [hl]; rfl
  · rfl
@[simp] theorem State.abandonReadout_clock : (s.abandonReadout).clock = s.clock := by
  unfold State.abandonReadout
  split
  · rfl
  · obtain ⟨l, hl⟩ := State.closeOpening_parts (s.setCap { s.cap with readout := .closed }) _ _
    rw [hl]; rfl
  · rfl
@[simp] theorem State.abandonReadout_races : (s.abandonReadout).races = s.races := by
  unfold State.abandonReadout
  split
  · rfl
  · obtain ⟨l, hl⟩ := State.closeOpening_parts (s.setCap { s.cap with readout := .closed }) _ _
    rw [hl]; rfl
  · rfl
@[simp] theorem State.abandonReadout_sett : (s.abandonReadout).sett = s.sett := by
  unfold State.abandonReadout
  split
  · rfl
  · obtain ⟨l, hl⟩ := State.closeOpening_parts (s.setCap { s.cap with readout := .closed }) _ _
    rw [hl]; rfl
  · rfl
@[simp] theorem State.abandonReadout_chans : (s.abandonReadout).chans = s.chans := by
  unfold State.abandonReadout
  split
  · rfl
  · obtain ⟨l, hl⟩ := State.closeOpening_parts (s.setCap { s.cap with readout := .closed }) _ _
    rw [hl]; rfl
  · rfl
@[simp] theorem State.abandonReadout_trig : (s.abandonReadout).trig = s.trig := by
  unfold State.abandonReadout
  split
  · rfl
  · obtain ⟨l, hl⟩ := State.closeOpening_parts (s.setCap { s.cap with readout := .closed }) _ _
    rw [hl]; rfl
  · rfl
@[simp] theorem State.abandonReadout_acq : (s.abandonReadout).acq = s.acq := by
  unfold State.abandonReadout
  split
  · rfl
  · obtain ⟨l, hl⟩ := State.closeOpening_parts (s.setCap { s.cap with readout := .closed }) _ _
    rw [hl]; rfl
  · rfl
@[simp] theorem State.abandonReadout_rend : (s.abandonReadout).rend = s.rend := by
  unfold State.abandonReadout
  split
  · rfl
  · obtain ⟨l, hl⟩ := State.closeOpening_parts (s.setCap { s.cap with readout := .closed }) _ _
    rw [hl]; rfl
  · rfl
@[simp] theorem State.abandonReadout_disp : (s.abandonReadout).disp = s.disp := by
  unfold State.abandonReadout
  split
  · rfl
  · obtain ⟨l, hl⟩ := State.closeOpening_parts (s.setCap { s.cap with readout := .closed }) _ _
    rw [hl]; rfl
  · rfl
@[simp] theorem State.abandonReadout_panel : (s.abandonReadout).panel = s.panel := by
  unfold State.abandonReadout
  split
  · rfl
  · obtain ⟨l, hl⟩ := State.closeOpening_parts (s.setCap { s.cap with readout := .closed }) _ _
    rw [hl]; rfl
  · rfl
@[simp] theorem State.abandonReadout_auth : (s.abandonReadout).auth = s.auth := by
  unfold State.abandonReadout
  split
  · rfl
  · obtain ⟨l, hl⟩ := State.closeOpening_parts (s.setCap { s.cap with readout := .closed }) _ _
    rw [hl]; rfl
  · rfl
@[simp] theorem State.abandonReadout_store : (s.abandonReadout).store = s.store := by
  unfold State.abandonReadout
  split
  · rfl
  · obtain ⟨l, hl⟩ := State.closeOpening_parts (s.setCap { s.cap with readout := .closed }) _ _
    rw [hl]; rfl
  · rfl

@[simp] theorem State.capRestart_pending : (s.capRestart).pending = s.pending := by
  simp [State.capRestart]
@[simp] theorem State.capRestart_clock : (s.capRestart).clock = s.clock := by
  simp [State.capRestart]
@[simp] theorem State.capRestart_races : (s.capRestart).races = s.races := by
  simp [State.capRestart]
@[simp] theorem State.capRestart_sett : (s.capRestart).sett = s.sett := by
  simp [State.capRestart]
@[simp] theorem State.capRestart_chans : (s.capRestart).chans = s.chans := by
  simp [State.capRestart]
@[simp] theorem State.capRestart_trig : (s.capRestart).trig = s.trig := by
  simp [State.capRestart]
@[simp] theorem State.capRestart_acq : (s.capRestart).acq = s.acq := by
  simp [State.capRestart]
@[simp] theorem State.capRestart_rend : (s.capRestart).rend = s.rend := by
  simp [State.capRestart]
@[simp] theorem State.capRestart_disp : (s.capRestart).disp = s.disp := by
  simp [State.capRestart]
@[simp] theorem State.capRestart_panel : (s.capRestart).panel = s.panel := by
  simp [State.capRestart]
@[simp] theorem State.capRestart_auth : (s.capRestart).auth = s.auth := by
  simp [State.capRestart]
@[simp] theorem State.capRestart_store : (s.capRestart).store = s.store := by
  simp [State.capRestart]

@[simp] theorem State.acqRestart_pending : (s.acqRestart).pending = s.pending := by
  simp only [State.acqRestart]; (repeat' split) <;> simp
@[simp] theorem State.acqRestart_clock : (s.acqRestart).clock = s.clock := by
  simp only [State.acqRestart]; (repeat' split) <;> simp
@[simp] theorem State.acqRestart_races : (s.acqRestart).races = s.races := by
  simp only [State.acqRestart]; (repeat' split) <;> simp
@[simp] theorem State.acqRestart_sett : (s.acqRestart).sett = s.sett := by
  simp only [State.acqRestart]; (repeat' split) <;> simp
@[simp] theorem State.acqRestart_chans : (s.acqRestart).chans = s.chans := by
  simp only [State.acqRestart]; (repeat' split) <;> simp
@[simp] theorem State.acqRestart_rend : (s.acqRestart).rend = s.rend := by
  simp only [State.acqRestart]; (repeat' split) <;> simp
@[simp] theorem State.acqRestart_disp : (s.acqRestart).disp = s.disp := by
  simp only [State.acqRestart]; (repeat' split) <;> simp
@[simp] theorem State.acqRestart_panel : (s.acqRestart).panel = s.panel := by
  simp only [State.acqRestart]; (repeat' split) <;> simp
@[simp] theorem State.acqRestart_auth : (s.acqRestart).auth = s.auth := by
  simp only [State.acqRestart]; (repeat' split) <;> simp
@[simp] theorem State.acqRestart_store : (s.acqRestart).store = s.store := by
  simp only [State.acqRestart]; (repeat' split) <;> simp

@[simp] theorem State.restart_pending : (s.restart).pending = s.pending := by
  simp [State.restart]
@[simp] theorem State.restart_clock : (s.restart).clock = s.clock := by
  simp [State.restart]
@[simp] theorem State.restart_races : (s.restart).races = s.races := by
  simp [State.restart]
@[simp] theorem State.restart_chans : (s.restart).chans = s.chans := by
  simp [State.restart]
@[simp] theorem State.restart_disp : (s.restart).disp = s.disp := by
  simp [State.restart]
@[simp] theorem State.restart_panel : (s.restart).panel = s.panel := by
  simp [State.restart]
@[simp] theorem State.restart_auth : (s.restart).auth = s.auth := by
  simp [State.restart]
@[simp] theorem State.restart_store : (s.restart).store = s.store := by
  simp [State.restart]

@[simp] theorem State.fileSegment_pending (i seq : Nat) : (s.fileSegment i seq).pending = s.pending := rfl
@[simp] theorem State.fileSegment_clock (i seq : Nat) : (s.fileSegment i seq).clock = s.clock := rfl
@[simp] theorem State.fileSegment_races (i seq : Nat) : (s.fileSegment i seq).races = s.races := rfl
@[simp] theorem State.fileSegment_link (i seq : Nat) : (s.fileSegment i seq).link = s.link := rfl
@[simp] theorem State.fileSegment_sett (i seq : Nat) : (s.fileSegment i seq).sett = s.sett := rfl
@[simp] theorem State.fileSegment_chans (i seq : Nat) : (s.fileSegment i seq).chans = s.chans := rfl
@[simp] theorem State.fileSegment_trig (i seq : Nat) : (s.fileSegment i seq).trig = s.trig := rfl
@[simp] theorem State.fileSegment_acq (i seq : Nat) : (s.fileSegment i seq).acq = s.acq := rfl
@[simp] theorem State.fileSegment_rend (i seq : Nat) : (s.fileSegment i seq).rend = s.rend := rfl
@[simp] theorem State.fileSegment_disp (i seq : Nat) : (s.fileSegment i seq).disp = s.disp := rfl
@[simp] theorem State.fileSegment_panel (i seq : Nat) : (s.fileSegment i seq).panel = s.panel := rfl
@[simp] theorem State.fileSegment_auth (i seq : Nat) : (s.fileSegment i seq).auth = s.auth := rfl
@[simp] theorem State.fileSegment_store (i seq : Nat) : (s.fileSegment i seq).store = s.store := rfl

@[simp] theorem State.afterCompletion_pending : (s.afterCompletion).pending = s.pending := by
  unfold State.afterCompletion; (repeat' split) <;> simp
@[simp] theorem State.afterCompletion_clock : (s.afterCompletion).clock = s.clock := by
  unfold State.afterCompletion; (repeat' split) <;> simp
@[simp] theorem State.afterCompletion_races : (s.afterCompletion).races = s.races := by
  unfold State.afterCompletion; (repeat' split) <;> simp
@[simp] theorem State.afterCompletion_sett : (s.afterCompletion).sett = s.sett := by
  unfold State.afterCompletion; (repeat' split) <;> simp
@[simp] theorem State.afterCompletion_chans : (s.afterCompletion).chans = s.chans := by
  unfold State.afterCompletion; (repeat' split) <;> simp
@[simp] theorem State.afterCompletion_rend : (s.afterCompletion).rend = s.rend := by
  unfold State.afterCompletion; (repeat' split) <;> simp
@[simp] theorem State.afterCompletion_disp : (s.afterCompletion).disp = s.disp := by
  unfold State.afterCompletion; (repeat' split) <;> simp
@[simp] theorem State.afterCompletion_panel : (s.afterCompletion).panel = s.panel := by
  unfold State.afterCompletion; (repeat' split) <;> simp
@[simp] theorem State.afterCompletion_auth : (s.afterCompletion).auth = s.auth := by
  unfold State.afterCompletion; (repeat' split) <;> simp
@[simp] theorem State.afterCompletion_store : (s.afterCompletion).store = s.store := by
  unfold State.afterCompletion; (repeat' split) <;> simp

@[simp] theorem State.completeSegment_pending (i : Nat) : (s.completeSegment i).pending = s.pending := by
  simp only [State.completeSegment]
  have h := fun s : State => s.contend_frame State.pending State.afterCompletion (by simp) (by simp) (by simp) (by simp)
  split <;> simp [h]
@[simp] theorem State.completeSegment_clock (i : Nat) : (s.completeSegment i).clock = s.clock := by
  simp only [State.completeSegment]
  have h := fun s : State => s.contend_frame State.clock State.afterCompletion (by simp) (by simp) (by simp) (by simp)
  split <;> simp [h]
@[simp] theorem State.completeSegment_chans (i : Nat) : (s.completeSegment i).chans = s.chans := by
  simp only [State.completeSegment]
  have h := fun s : State => s.contend_frame State.chans State.afterCompletion (by simp) (by simp) (by simp) (by simp)
  split <;> simp [h]
@[simp] theorem State.completeSegment_disp (i : Nat) : (s.completeSegment i).disp = s.disp := by
  simp only [State.completeSegment]
  have h := fun s : State => s.contend_frame State.disp State.afterCompletion (by simp) (by simp) (by simp) (by simp)
  split <;> simp [h]
@[simp] theorem State.completeSegment_panel (i : Nat) : (s.completeSegment i).panel = s.panel := by
  simp only [State.completeSegment]
  have h := fun s : State => s.contend_frame State.panel State.afterCompletion (by simp) (by simp) (by simp) (by simp)
  split <;> simp [h]
@[simp] theorem State.completeSegment_auth (i : Nat) : (s.completeSegment i).auth = s.auth := by
  simp only [State.completeSegment]
  have h := fun s : State => s.contend_frame State.auth State.afterCompletion (by simp) (by simp) (by simp) (by simp)
  split <;> simp [h]
@[simp] theorem State.completeSegment_store (i : Nat) : (s.completeSegment i).store = s.store := by
  simp only [State.completeSegment]
  have h := fun s : State => s.contend_frame State.store State.afterCompletion (by simp) (by simp) (by simp) (by simp)
  split <;> simp [h]

@[simp] theorem State.startRun_pending (k : RunKind) : (s.startRun k).pending = s.pending := by
  unfold State.startRun; (repeat' split) <;> simp
@[simp] theorem State.startRun_clock (k : RunKind) : (s.startRun k).clock = s.clock := by
  unfold State.startRun; (repeat' split) <;> simp
@[simp] theorem State.startRun_races (k : RunKind) : (s.startRun k).races = s.races := by
  unfold State.startRun; (repeat' split) <;> simp
@[simp] theorem State.startRun_sett (k : RunKind) : (s.startRun k).sett = s.sett := by
  unfold State.startRun; (repeat' split) <;> simp
@[simp] theorem State.startRun_chans (k : RunKind) : (s.startRun k).chans = s.chans := by
  unfold State.startRun; (repeat' split) <;> simp
@[simp] theorem State.startRun_rend (k : RunKind) : (s.startRun k).rend = s.rend := by
  unfold State.startRun; (repeat' split) <;> simp
@[simp] theorem State.startRun_disp (k : RunKind) : (s.startRun k).disp = s.disp := by
  unfold State.startRun; (repeat' split) <;> simp
@[simp] theorem State.startRun_panel (k : RunKind) : (s.startRun k).panel = s.panel := by
  unfold State.startRun; (repeat' split) <;> simp
@[simp] theorem State.startRun_auth (k : RunKind) : (s.startRun k).auth = s.auth := by
  unfold State.startRun; (repeat' split) <;> simp
@[simp] theorem State.startRun_store (k : RunKind) : (s.startRun k).store = s.store := by
  unfold State.startRun; (repeat' split) <;> simp

@[simp] theorem State.clearMaps_pending : (s.clearMaps).pending = s.pending := rfl
@[simp] theorem State.clearMaps_clock : (s.clearMaps).clock = s.clock := rfl
@[simp] theorem State.clearMaps_races : (s.clearMaps).races = s.races := rfl
@[simp] theorem State.clearMaps_link : (s.clearMaps).link = s.link := rfl
@[simp] theorem State.clearMaps_sett : (s.clearMaps).sett = s.sett := rfl
@[simp] theorem State.clearMaps_chans : (s.clearMaps).chans = s.chans := rfl
@[simp] theorem State.clearMaps_trig : (s.clearMaps).trig = s.trig := rfl
@[simp] theorem State.clearMaps_acq : (s.clearMaps).acq = s.acq := rfl
@[simp] theorem State.clearMaps_cap : (s.clearMaps).cap = s.cap := rfl
@[simp] theorem State.clearMaps_disp : (s.clearMaps).disp = s.disp := rfl
@[simp] theorem State.clearMaps_panel : (s.clearMaps).panel = s.panel := rfl
@[simp] theorem State.clearMaps_auth : (s.clearMaps).auth = s.auth := rfl
@[simp] theorem State.clearMaps_store : (s.clearMaps).store = s.store := rfl

@[simp] theorem State.informStore_pending : (s.informStore).pending = s.pending := by
  unfold State.informStore; (repeat' split) <;> simp
@[simp] theorem State.informStore_clock : (s.informStore).clock = s.clock := by
  unfold State.informStore; (repeat' split) <;> simp
@[simp] theorem State.informStore_races : (s.informStore).races = s.races := by
  unfold State.informStore; (repeat' split) <;> simp
@[simp] theorem State.informStore_link : (s.informStore).link = s.link := by
  unfold State.informStore; (repeat' split) <;> simp
@[simp] theorem State.informStore_sett : (s.informStore).sett = s.sett := by
  unfold State.informStore; (repeat' split) <;> simp
@[simp] theorem State.informStore_chans : (s.informStore).chans = s.chans := by
  unfold State.informStore; (repeat' split) <;> simp
@[simp] theorem State.informStore_trig : (s.informStore).trig = s.trig := by
  unfold State.informStore; (repeat' split) <;> simp
@[simp] theorem State.informStore_acq : (s.informStore).acq = s.acq := by
  unfold State.informStore; (repeat' split) <;> simp
@[simp] theorem State.informStore_cap : (s.informStore).cap = s.cap := by
  unfold State.informStore; (repeat' split) <;> simp
@[simp] theorem State.informStore_rend : (s.informStore).rend = s.rend := by
  unfold State.informStore; (repeat' split) <;> simp
@[simp] theorem State.informStore_disp : (s.informStore).disp = s.disp := by
  unfold State.informStore; (repeat' split) <;> simp
@[simp] theorem State.informStore_panel : (s.informStore).panel = s.panel := by
  unfold State.informStore; (repeat' split) <;> simp
@[simp] theorem State.informStore_auth : (s.informStore).auth = s.auth := by
  unfold State.informStore; (repeat' split) <;> simp

@[simp] theorem State.channelNotice_pending (ch : Channel) (ev : ChanEvent) : (s.channelNotice ch ev).pending = s.pending := rfl
@[simp] theorem State.channelNotice_clock (ch : Channel) (ev : ChanEvent) : (s.channelNotice ch ev).clock = s.clock := rfl
@[simp] theorem State.channelNotice_races (ch : Channel) (ev : ChanEvent) : (s.channelNotice ch ev).races = s.races := rfl
@[simp] theorem State.channelNotice_sett (ch : Channel) (ev : ChanEvent) : (s.channelNotice ch ev).sett = s.sett := rfl
@[simp] theorem State.channelNotice_chans (ch : Channel) (ev : ChanEvent) : (s.channelNotice ch ev).chans = s.chans := rfl
@[simp] theorem State.channelNotice_trig (ch : Channel) (ev : ChanEvent) : (s.channelNotice ch ev).trig = s.trig := rfl
@[simp] theorem State.channelNotice_acq (ch : Channel) (ev : ChanEvent) : (s.channelNotice ch ev).acq = s.acq := rfl
@[simp] theorem State.channelNotice_cap (ch : Channel) (ev : ChanEvent) : (s.channelNotice ch ev).cap = s.cap := rfl
@[simp] theorem State.channelNotice_rend (ch : Channel) (ev : ChanEvent) : (s.channelNotice ch ev).rend = s.rend := rfl
@[simp] theorem State.channelNotice_disp (ch : Channel) (ev : ChanEvent) : (s.channelNotice ch ev).disp = s.disp := rfl
@[simp] theorem State.channelNotice_panel (ch : Channel) (ev : ChanEvent) : (s.channelNotice ch ev).panel = s.panel := rfl
@[simp] theorem State.channelNotice_auth (ch : Channel) (ev : ChanEvent) : (s.channelNotice ch ev).auth = s.auth := rfl
@[simp] theorem State.channelNotice_store (ch : Channel) (ev : ChanEvent) : (s.channelNotice ch ev).store = s.store := rfl

@[simp] theorem State.setUnit_pending (ch : Channel) (u : ChanUnit) : (s.setUnit ch u).pending = s.pending := rfl
@[simp] theorem State.setUnit_clock (ch : Channel) (u : ChanUnit) : (s.setUnit ch u).clock = s.clock := rfl
@[simp] theorem State.setUnit_races (ch : Channel) (u : ChanUnit) : (s.setUnit ch u).races = s.races := rfl
@[simp] theorem State.setUnit_link (ch : Channel) (u : ChanUnit) : (s.setUnit ch u).link = s.link := rfl
@[simp] theorem State.setUnit_sett (ch : Channel) (u : ChanUnit) : (s.setUnit ch u).sett = s.sett := rfl
@[simp] theorem State.setUnit_trig (ch : Channel) (u : ChanUnit) : (s.setUnit ch u).trig = s.trig := rfl
@[simp] theorem State.setUnit_acq (ch : Channel) (u : ChanUnit) : (s.setUnit ch u).acq = s.acq := rfl
@[simp] theorem State.setUnit_cap (ch : Channel) (u : ChanUnit) : (s.setUnit ch u).cap = s.cap := rfl
@[simp] theorem State.setUnit_rend (ch : Channel) (u : ChanUnit) : (s.setUnit ch u).rend = s.rend := rfl
@[simp] theorem State.setUnit_disp (ch : Channel) (u : ChanUnit) : (s.setUnit ch u).disp = s.disp := rfl
@[simp] theorem State.setUnit_panel (ch : Channel) (u : ChanUnit) : (s.setUnit ch u).panel = s.panel := rfl
@[simp] theorem State.setUnit_auth (ch : Channel) (u : ChanUnit) : (s.setUnit ch u).auth = s.auth := rfl
@[simp] theorem State.setUnit_store (ch : Channel) (u : ChanUnit) : (s.setUnit ch u).store = s.store := rfl

@[simp] theorem State.programFront_pending (ch : Channel) : (s.programFront ch).pending = s.pending := rfl
@[simp] theorem State.programFront_clock (ch : Channel) : (s.programFront ch).clock = s.clock := rfl
@[simp] theorem State.programFront_races (ch : Channel) : (s.programFront ch).races = s.races := rfl
@[simp] theorem State.programFront_link (ch : Channel) : (s.programFront ch).link = s.link := rfl
@[simp] theorem State.programFront_sett (ch : Channel) : (s.programFront ch).sett = s.sett := rfl
@[simp] theorem State.programFront_trig (ch : Channel) : (s.programFront ch).trig = s.trig := rfl
@[simp] theorem State.programFront_acq (ch : Channel) : (s.programFront ch).acq = s.acq := rfl
@[simp] theorem State.programFront_cap (ch : Channel) : (s.programFront ch).cap = s.cap := rfl
@[simp] theorem State.programFront_rend (ch : Channel) : (s.programFront ch).rend = s.rend := rfl
@[simp] theorem State.programFront_disp (ch : Channel) : (s.programFront ch).disp = s.disp := rfl
@[simp] theorem State.programFront_panel (ch : Channel) : (s.programFront ch).panel = s.panel := rfl
@[simp] theorem State.programFront_auth (ch : Channel) : (s.programFront ch).auth = s.auth := rfl
@[simp] theorem State.programFront_store (ch : Channel) : (s.programFront ch).store = s.store := rfl

@[simp] theorem State.markInvalid_pending (ch : Channel) : (s.markInvalid ch).pending = s.pending := by
  unfold State.markInvalid; (repeat' split) <;> simp
@[simp] theorem State.markInvalid_clock (ch : Channel) : (s.markInvalid ch).clock = s.clock := by
  unfold State.markInvalid; (repeat' split) <;> simp
@[simp] theorem State.markInvalid_races (ch : Channel) : (s.markInvalid ch).races = s.races := by
  unfold State.markInvalid; (repeat' split) <;> simp
@[simp] theorem State.markInvalid_link (ch : Channel) : (s.markInvalid ch).link = s.link := by
  unfold State.markInvalid; (repeat' split) <;> simp
@[simp] theorem State.markInvalid_sett (ch : Channel) : (s.markInvalid ch).sett = s.sett := by
  unfold State.markInvalid; (repeat' split) <;> simp
@[simp] theorem State.markInvalid_chans (ch : Channel) : (s.markInvalid ch).chans = s.chans := by
  unfold State.markInvalid; (repeat' split) <;> simp
@[simp] theorem State.markInvalid_trig (ch : Channel) : (s.markInvalid ch).trig = s.trig := by
  unfold State.markInvalid; (repeat' split) <;> simp
@[simp] theorem State.markInvalid_acq (ch : Channel) : (s.markInvalid ch).acq = s.acq := by
  unfold State.markInvalid; (repeat' split) <;> simp
@[simp] theorem State.markInvalid_rend (ch : Channel) : (s.markInvalid ch).rend = s.rend := by
  unfold State.markInvalid; (repeat' split) <;> simp
@[simp] theorem State.markInvalid_disp (ch : Channel) : (s.markInvalid ch).disp = s.disp := by
  unfold State.markInvalid; (repeat' split) <;> simp
@[simp] theorem State.markInvalid_panel (ch : Channel) : (s.markInvalid ch).panel = s.panel := by
  unfold State.markInvalid; (repeat' split) <;> simp
@[simp] theorem State.markInvalid_auth (ch : Channel) : (s.markInvalid ch).auth = s.auth := by
  unfold State.markInvalid; (repeat' split) <;> simp
@[simp] theorem State.markInvalid_store (ch : Channel) : (s.markInvalid ch).store = s.store := by
  unfold State.markInvalid; (repeat' split) <;> simp

@[simp] theorem State.disarmSource_pending (ch : Channel) : (s.disarmSource ch).pending = s.pending := by
  unfold State.disarmSource; (repeat' split) <;> simp
@[simp] theorem State.disarmSource_clock (ch : Channel) : (s.disarmSource ch).clock = s.clock := by
  unfold State.disarmSource; (repeat' split) <;> simp
@[simp] theorem State.disarmSource_races (ch : Channel) : (s.disarmSource ch).races = s.races := by
  unfold State.disarmSource; (repeat' split) <;> simp
@[simp] theorem State.disarmSource_link (ch : Channel) : (s.disarmSource ch).link = s.link := by
  unfold State.disarmSource; (repeat' split) <;> simp
@[simp] theorem State.disarmSource_sett (ch : Channel) : (s.disarmSource ch).sett = s.sett := by
  unfold State.disarmSource; (repeat' split) <;> simp
@[simp] theorem State.disarmSource_chans (ch : Channel) : (s.disarmSource ch).chans = s.chans := by
  unfold State.disarmSource; (repeat' split) <;> simp
@[simp] theorem State.disarmSource_acq (ch : Channel) : (s.disarmSource ch).acq = s.acq := by
  unfold State.disarmSource; (repeat' split) <;> simp
@[simp] theorem State.disarmSource_cap (ch : Channel) : (s.disarmSource ch).cap = s.cap := by
  unfold State.disarmSource; (repeat' split) <;> simp
@[simp] theorem State.disarmSource_rend (ch : Channel) : (s.disarmSource ch).rend = s.rend := by
  unfold State.disarmSource; (repeat' split) <;> simp
@[simp] theorem State.disarmSource_disp (ch : Channel) : (s.disarmSource ch).disp = s.disp := by
  unfold State.disarmSource; (repeat' split) <;> simp
@[simp] theorem State.disarmSource_panel (ch : Channel) : (s.disarmSource ch).panel = s.panel := by
  unfold State.disarmSource; (repeat' split) <;> simp
@[simp] theorem State.disarmSource_auth (ch : Channel) : (s.disarmSource ch).auth = s.auth := by
  unfold State.disarmSource; (repeat' split) <;> simp
@[simp] theorem State.disarmSource_store (ch : Channel) : (s.disarmSource ch).store = s.store := by
  unfold State.disarmSource; (repeat' split) <;> simp

@[simp] theorem State.protectChannel_pending (ch : Channel) : (s.protectChannel ch).pending = s.pending := by
  simp only [State.protectChannel]; (repeat' split) <;> simp
@[simp] theorem State.protectChannel_clock (ch : Channel) : (s.protectChannel ch).clock = s.clock := by
  simp only [State.protectChannel]; (repeat' split) <;> simp
@[simp] theorem State.protectChannel_races (ch : Channel) : (s.protectChannel ch).races = s.races := by
  simp only [State.protectChannel]; (repeat' split) <;> simp
@[simp] theorem State.protectChannel_sett (ch : Channel) : (s.protectChannel ch).sett = s.sett := by
  simp only [State.protectChannel]; (repeat' split) <;> simp
@[simp] theorem State.protectChannel_acq (ch : Channel) : (s.protectChannel ch).acq = s.acq := by
  simp only [State.protectChannel]; (repeat' split) <;> simp
@[simp] theorem State.protectChannel_rend (ch : Channel) : (s.protectChannel ch).rend = s.rend := by
  simp only [State.protectChannel]; (repeat' split) <;> simp
@[simp] theorem State.protectChannel_disp (ch : Channel) : (s.protectChannel ch).disp = s.disp := by
  simp only [State.protectChannel]; (repeat' split) <;> simp
@[simp] theorem State.protectChannel_panel (ch : Channel) : (s.protectChannel ch).panel = s.panel := by
  simp only [State.protectChannel]; (repeat' split) <;> simp
@[simp] theorem State.protectChannel_auth (ch : Channel) : (s.protectChannel ch).auth = s.auth := by
  simp only [State.protectChannel]; (repeat' split) <;> simp
@[simp] theorem State.protectChannel_store (ch : Channel) : (s.protectChannel ch).store = s.store := by
  simp only [State.protectChannel]; (repeat' split) <;> simp

@[simp] theorem State.unprotectChannel_pending (ch : Channel) : (s.unprotectChannel ch).pending = s.pending := rfl
@[simp] theorem State.unprotectChannel_clock (ch : Channel) : (s.unprotectChannel ch).clock = s.clock := rfl
@[simp] theorem State.unprotectChannel_races (ch : Channel) : (s.unprotectChannel ch).races = s.races := rfl
@[simp] theorem State.unprotectChannel_sett (ch : Channel) : (s.unprotectChannel ch).sett = s.sett := rfl
@[simp] theorem State.unprotectChannel_trig (ch : Channel) : (s.unprotectChannel ch).trig = s.trig := rfl
@[simp] theorem State.unprotectChannel_acq (ch : Channel) : (s.unprotectChannel ch).acq = s.acq := rfl
@[simp] theorem State.unprotectChannel_cap (ch : Channel) : (s.unprotectChannel ch).cap = s.cap := rfl
@[simp] theorem State.unprotectChannel_rend (ch : Channel) : (s.unprotectChannel ch).rend = s.rend := rfl
@[simp] theorem State.unprotectChannel_disp (ch : Channel) : (s.unprotectChannel ch).disp = s.disp := rfl
@[simp] theorem State.unprotectChannel_panel (ch : Channel) : (s.unprotectChannel ch).panel = s.panel := rfl
@[simp] theorem State.unprotectChannel_auth (ch : Channel) : (s.unprotectChannel ch).auth = s.auth := rfl
@[simp] theorem State.unprotectChannel_store (ch : Channel) : (s.unprotectChannel ch).store = s.store := rfl

@[simp] theorem State.displayNotice_pending (ev : DispEvent) (c : Cause) : (s.displayNotice ev c).pending = s.pending := rfl
@[simp] theorem State.displayNotice_clock (ev : DispEvent) (c : Cause) : (s.displayNotice ev c).clock = s.clock := rfl
@[simp] theorem State.displayNotice_races (ev : DispEvent) (c : Cause) : (s.displayNotice ev c).races = s.races := rfl
@[simp] theorem State.displayNotice_sett (ev : DispEvent) (c : Cause) : (s.displayNotice ev c).sett = s.sett := rfl
@[simp] theorem State.displayNotice_chans (ev : DispEvent) (c : Cause) : (s.displayNotice ev c).chans = s.chans := rfl
@[simp] theorem State.displayNotice_trig (ev : DispEvent) (c : Cause) : (s.displayNotice ev c).trig = s.trig := rfl
@[simp] theorem State.displayNotice_acq (ev : DispEvent) (c : Cause) : (s.displayNotice ev c).acq = s.acq := rfl
@[simp] theorem State.displayNotice_cap (ev : DispEvent) (c : Cause) : (s.displayNotice ev c).cap = s.cap := rfl
@[simp] theorem State.displayNotice_rend (ev : DispEvent) (c : Cause) : (s.displayNotice ev c).rend = s.rend := rfl
@[simp] theorem State.displayNotice_disp (ev : DispEvent) (c : Cause) : (s.displayNotice ev c).disp = s.disp := rfl
@[simp] theorem State.displayNotice_panel (ev : DispEvent) (c : Cause) : (s.displayNotice ev c).panel = s.panel := rfl
@[simp] theorem State.displayNotice_auth (ev : DispEvent) (c : Cause) : (s.displayNotice ev c).auth = s.auth := rfl
@[simp] theorem State.displayNotice_store (ev : DispEvent) (c : Cause) : (s.displayNotice ev c).store = s.store := rfl

@[simp] theorem State.localNotice_pending (ev : LocalEvent) : (s.localNotice ev).pending = s.pending := rfl
@[simp] theorem State.localNotice_clock (ev : LocalEvent) : (s.localNotice ev).clock = s.clock := rfl
@[simp] theorem State.localNotice_races (ev : LocalEvent) : (s.localNotice ev).races = s.races := rfl
@[simp] theorem State.localNotice_sett (ev : LocalEvent) : (s.localNotice ev).sett = s.sett := rfl
@[simp] theorem State.localNotice_chans (ev : LocalEvent) : (s.localNotice ev).chans = s.chans := rfl
@[simp] theorem State.localNotice_trig (ev : LocalEvent) : (s.localNotice ev).trig = s.trig := rfl
@[simp] theorem State.localNotice_acq (ev : LocalEvent) : (s.localNotice ev).acq = s.acq := rfl
@[simp] theorem State.localNotice_cap (ev : LocalEvent) : (s.localNotice ev).cap = s.cap := rfl
@[simp] theorem State.localNotice_rend (ev : LocalEvent) : (s.localNotice ev).rend = s.rend := rfl
@[simp] theorem State.localNotice_disp (ev : LocalEvent) : (s.localNotice ev).disp = s.disp := rfl
@[simp] theorem State.localNotice_panel (ev : LocalEvent) : (s.localNotice ev).panel = s.panel := rfl
@[simp] theorem State.localNotice_auth (ev : LocalEvent) : (s.localNotice ev).auth = s.auth := rfl
@[simp] theorem State.localNotice_store (ev : LocalEvent) : (s.localNotice ev).store = s.store := rfl

@[simp] theorem State.flip_pending (tag : Byte) (r : List Overlay) : (s.flip tag r).pending = s.pending := rfl
@[simp] theorem State.flip_clock (tag : Byte) (r : List Overlay) : (s.flip tag r).clock = s.clock := rfl
@[simp] theorem State.flip_races (tag : Byte) (r : List Overlay) : (s.flip tag r).races = s.races := rfl
@[simp] theorem State.flip_sett (tag : Byte) (r : List Overlay) : (s.flip tag r).sett = s.sett := rfl
@[simp] theorem State.flip_chans (tag : Byte) (r : List Overlay) : (s.flip tag r).chans = s.chans := rfl
@[simp] theorem State.flip_trig (tag : Byte) (r : List Overlay) : (s.flip tag r).trig = s.trig := rfl
@[simp] theorem State.flip_acq (tag : Byte) (r : List Overlay) : (s.flip tag r).acq = s.acq := rfl
@[simp] theorem State.flip_cap (tag : Byte) (r : List Overlay) : (s.flip tag r).cap = s.cap := rfl
@[simp] theorem State.flip_rend (tag : Byte) (r : List Overlay) : (s.flip tag r).rend = s.rend := rfl
@[simp] theorem State.flip_panel (tag : Byte) (r : List Overlay) : (s.flip tag r).panel = s.panel := rfl
@[simp] theorem State.flip_auth (tag : Byte) (r : List Overlay) : (s.flip tag r).auth = s.auth := rfl
@[simp] theorem State.flip_store (tag : Byte) (r : List Overlay) : (s.flip tag r).store = s.store := rfl

@[simp] theorem State.frameFlip_pending : (s.frameFlip).pending = s.pending := by
  unfold State.frameFlip; (repeat' split) <;> simp
@[simp] theorem State.frameFlip_clock : (s.frameFlip).clock = s.clock := by
  unfold State.frameFlip; (repeat' split) <;> simp
@[simp] theorem State.frameFlip_races : (s.frameFlip).races = s.races := by
  unfold State.frameFlip; (repeat' split) <;> simp
@[simp] theorem State.frameFlip_sett : (s.frameFlip).sett = s.sett := by
  unfold State.frameFlip; (repeat' split) <;> simp
@[simp] theorem State.frameFlip_chans : (s.frameFlip).chans = s.chans := by
  unfold State.frameFlip; (repeat' split) <;> simp
@[simp] theorem State.frameFlip_trig : (s.frameFlip).trig = s.trig := by
  unfold State.frameFlip; (repeat' split) <;> simp
@[simp] theorem State.frameFlip_acq : (s.frameFlip).acq = s.acq := by
  unfold State.frameFlip; (repeat' split) <;> simp
@[simp] theorem State.frameFlip_cap : (s.frameFlip).cap = s.cap := by
  unfold State.frameFlip; (repeat' split) <;> simp
@[simp] theorem State.frameFlip_rend : (s.frameFlip).rend = s.rend := by
  unfold State.frameFlip; (repeat' split) <;> simp
@[simp] theorem State.frameFlip_panel : (s.frameFlip).panel = s.panel := by
  unfold State.frameFlip; (repeat' split) <;> simp
@[simp] theorem State.frameFlip_auth : (s.frameFlip).auth = s.auth := by
  unfold State.frameFlip; (repeat' split) <;> simp
@[simp] theorem State.frameFlip_store : (s.frameFlip).store = s.store := by
  unfold State.frameFlip; (repeat' split) <;> simp

@[simp] theorem State.beginPowerUp_pending (c : Cause) : (s.beginPowerUp c).pending = s.pending := by
  simp [State.beginPowerUp]
@[simp] theorem State.beginPowerUp_clock (c : Cause) : (s.beginPowerUp c).clock = s.clock := by
  simp [State.beginPowerUp]
@[simp] theorem State.beginPowerUp_races (c : Cause) : (s.beginPowerUp c).races = s.races := by
  simp [State.beginPowerUp]
@[simp] theorem State.beginPowerUp_link (c : Cause) : (s.beginPowerUp c).link = s.link := by
  simp [State.beginPowerUp]
@[simp] theorem State.beginPowerUp_sett (c : Cause) : (s.beginPowerUp c).sett = s.sett := by
  simp [State.beginPowerUp]
@[simp] theorem State.beginPowerUp_chans (c : Cause) : (s.beginPowerUp c).chans = s.chans := by
  simp [State.beginPowerUp]
@[simp] theorem State.beginPowerUp_trig (c : Cause) : (s.beginPowerUp c).trig = s.trig := by
  simp [State.beginPowerUp]
@[simp] theorem State.beginPowerUp_acq (c : Cause) : (s.beginPowerUp c).acq = s.acq := by
  simp [State.beginPowerUp]
@[simp] theorem State.beginPowerUp_rend (c : Cause) : (s.beginPowerUp c).rend = s.rend := by
  simp [State.beginPowerUp]
@[simp] theorem State.beginPowerUp_panel (c : Cause) : (s.beginPowerUp c).panel = s.panel := by
  simp [State.beginPowerUp]
@[simp] theorem State.beginPowerUp_auth (c : Cause) : (s.beginPowerUp c).auth = s.auth := by
  simp [State.beginPowerUp]
@[simp] theorem State.beginPowerUp_store (c : Cause) : (s.beginPowerUp c).store = s.store := by
  simp [State.beginPowerUp]

@[simp] theorem State.persist_pending : (s.persist).pending = s.pending := by
  simp only [State.persist]; (repeat' split) <;> simp
@[simp] theorem State.persist_clock : (s.persist).clock = s.clock := by
  simp only [State.persist]; (repeat' split) <;> simp
@[simp] theorem State.persist_races : (s.persist).races = s.races := by
  simp only [State.persist]; (repeat' split) <;> simp
@[simp] theorem State.persist_link : (s.persist).link = s.link := by
  simp only [State.persist]; (repeat' split) <;> simp
@[simp] theorem State.persist_sett : (s.persist).sett = s.sett := by
  simp only [State.persist]; (repeat' split) <;> simp
@[simp] theorem State.persist_chans : (s.persist).chans = s.chans := by
  simp only [State.persist]; (repeat' split) <;> simp
@[simp] theorem State.persist_trig : (s.persist).trig = s.trig := by
  simp only [State.persist]; (repeat' split) <;> simp
@[simp] theorem State.persist_acq : (s.persist).acq = s.acq := by
  simp only [State.persist]; (repeat' split) <;> simp
@[simp] theorem State.persist_cap : (s.persist).cap = s.cap := by
  simp only [State.persist]; (repeat' split) <;> simp
@[simp] theorem State.persist_disp : (s.persist).disp = s.disp := by
  simp only [State.persist]; (repeat' split) <;> simp
@[simp] theorem State.persist_panel : (s.persist).panel = s.panel := by
  simp only [State.persist]; (repeat' split) <;> simp
@[simp] theorem State.persist_auth : (s.persist).auth = s.auth := by
  simp only [State.persist]; (repeat' split) <;> simp
@[simp] theorem State.persist_store : (s.persist).store = s.store := by
  simp only [State.persist]; (repeat' split) <;> simp

@[simp] theorem State.rearm_pending : (s.rearm).pending = s.pending := by
  simp only [State.rearm]; (repeat' split) <;> simp
@[simp] theorem State.rearm_clock : (s.rearm).clock = s.clock := by
  simp only [State.rearm]; (repeat' split) <;> simp
@[simp] theorem State.rearm_races : (s.rearm).races = s.races := by
  simp only [State.rearm]; (repeat' split) <;> simp
@[simp] theorem State.rearm_link : (s.rearm).link = s.link := by
  simp only [State.rearm]; (repeat' split) <;> simp
@[simp] theorem State.rearm_sett : (s.rearm).sett = s.sett := by
  simp only [State.rearm]; (repeat' split) <;> simp
@[simp] theorem State.rearm_chans : (s.rearm).chans = s.chans := by
  simp only [State.rearm]; (repeat' split) <;> simp
@[simp] theorem State.rearm_acq : (s.rearm).acq = s.acq := by
  simp only [State.rearm]; (repeat' split) <;> simp
@[simp] theorem State.rearm_cap : (s.rearm).cap = s.cap := by
  simp only [State.rearm]; (repeat' split) <;> simp
@[simp] theorem State.rearm_rend : (s.rearm).rend = s.rend := by
  simp only [State.rearm]; (repeat' split) <;> simp
@[simp] theorem State.rearm_disp : (s.rearm).disp = s.disp := by
  simp only [State.rearm]; (repeat' split) <;> simp
@[simp] theorem State.rearm_panel : (s.rearm).panel = s.panel := by
  simp only [State.rearm]; (repeat' split) <;> simp
@[simp] theorem State.rearm_auth : (s.rearm).auth = s.auth := by
  simp only [State.rearm]; (repeat' split) <;> simp
@[simp] theorem State.rearm_store : (s.rearm).store = s.store := by
  simp only [State.rearm]; (repeat' split) <;> simp

@[simp] theorem State.deliverTrigger_pending (t : Txn) : (s.deliverTrigger t).pending = s.pending := by
  simp only [State.deliverTrigger]; (repeat' split) <;> simp
@[simp] theorem State.deliverTrigger_clock (t : Txn) : (s.deliverTrigger t).clock = s.clock := by
  simp only [State.deliverTrigger]; (repeat' split) <;> simp
@[simp] theorem State.deliverTrigger_races (t : Txn) : (s.deliverTrigger t).races = s.races := by
  simp only [State.deliverTrigger]; (repeat' split) <;> simp
@[simp] theorem State.deliverTrigger_link (t : Txn) : (s.deliverTrigger t).link = s.link := by
  simp only [State.deliverTrigger]; (repeat' split) <;> simp
@[simp] theorem State.deliverTrigger_sett (t : Txn) : (s.deliverTrigger t).sett = s.sett := by
  simp only [State.deliverTrigger]; (repeat' split) <;> simp
@[simp] theorem State.deliverTrigger_chans (t : Txn) : (s.deliverTrigger t).chans = s.chans := by
  simp only [State.deliverTrigger]; (repeat' split) <;> simp
@[simp] theorem State.deliverTrigger_acq (t : Txn) : (s.deliverTrigger t).acq = s.acq := by
  simp only [State.deliverTrigger]; (repeat' split) <;> simp
@[simp] theorem State.deliverTrigger_cap (t : Txn) : (s.deliverTrigger t).cap = s.cap := by
  simp only [State.deliverTrigger]; (repeat' split) <;> simp
@[simp] theorem State.deliverTrigger_rend (t : Txn) : (s.deliverTrigger t).rend = s.rend := by
  simp only [State.deliverTrigger]; (repeat' split) <;> simp
@[simp] theorem State.deliverTrigger_disp (t : Txn) : (s.deliverTrigger t).disp = s.disp := by
  simp only [State.deliverTrigger]; (repeat' split) <;> simp
@[simp] theorem State.deliverTrigger_panel (t : Txn) : (s.deliverTrigger t).panel = s.panel := by
  simp only [State.deliverTrigger]; (repeat' split) <;> simp
@[simp] theorem State.deliverTrigger_auth (t : Txn) : (s.deliverTrigger t).auth = s.auth := by
  simp only [State.deliverTrigger]; (repeat' split) <;> simp
@[simp] theorem State.deliverTrigger_store (t : Txn) : (s.deliverTrigger t).store = s.store := by
  simp only [State.deliverTrigger]; (repeat' split) <;> simp

@[simp] theorem State.noteTo50_pending : s.noteTo50.pending = s.pending := rfl
@[simp] theorem State.noteTo50_clock : s.noteTo50.clock = s.clock := rfl
@[simp] theorem State.noteTo50_races : s.noteTo50.races = s.races := rfl
@[simp] theorem State.noteTo50_link : s.noteTo50.link = s.link := rfl
@[simp] theorem State.noteTo50_sett : s.noteTo50.sett = s.sett := rfl
@[simp] theorem State.noteTo50_trig : s.noteTo50.trig = s.trig := rfl
@[simp] theorem State.noteTo50_acq : s.noteTo50.acq = s.acq := rfl
@[simp] theorem State.noteTo50_cap : s.noteTo50.cap = s.cap := rfl
@[simp] theorem State.noteTo50_rend : s.noteTo50.rend = s.rend := rfl
@[simp] theorem State.noteTo50_disp : s.noteTo50.disp = s.disp := rfl
@[simp] theorem State.noteTo50_panel : s.noteTo50.panel = s.panel := rfl
@[simp] theorem State.noteTo50_auth : s.noteTo50.auth = s.auth := rfl
@[simp] theorem State.noteTo50_store : s.noteTo50.store = s.store := rfl

@[simp] theorem State.deliverChannel_pending (v : Settings) (t : Txn) (c : BitVec 4) (ch : Channel) : (s.deliverChannel v t c ch).pending = s.pending := by
  simp only [State.deliverChannel]; (repeat' split) <;> simp
@[simp] theorem State.deliverChannel_clock (v : Settings) (t : Txn) (c : BitVec 4) (ch : Channel) : (s.deliverChannel v t c ch).clock = s.clock := by
  simp only [State.deliverChannel]; (repeat' split) <;> simp
@[simp] theorem State.deliverChannel_races (v : Settings) (t : Txn) (c : BitVec 4) (ch : Channel) : (s.deliverChannel v t c ch).races = s.races := by
  simp only [State.deliverChannel]; (repeat' split) <;> simp
@[simp] theorem State.deliverChannel_sett (v : Settings) (t : Txn) (c : BitVec 4) (ch : Channel) : (s.deliverChannel v t c ch).sett = s.sett := by
  simp only [State.deliverChannel]; (repeat' split) <;> simp
@[simp] theorem State.deliverChannel_acq (v : Settings) (t : Txn) (c : BitVec 4) (ch : Channel) : (s.deliverChannel v t c ch).acq = s.acq := by
  simp only [State.deliverChannel]; (repeat' split) <;> simp
@[simp] theorem State.deliverChannel_rend (v : Settings) (t : Txn) (c : BitVec 4) (ch : Channel) : (s.deliverChannel v t c ch).rend = s.rend := by
  simp only [State.deliverChannel]; (repeat' split) <;> simp
@[simp] theorem State.deliverChannel_disp (v : Settings) (t : Txn) (c : BitVec 4) (ch : Channel) : (s.deliverChannel v t c ch).disp = s.disp := by
  simp only [State.deliverChannel]; (repeat' split) <;> simp
@[simp] theorem State.deliverChannel_panel (v : Settings) (t : Txn) (c : BitVec 4) (ch : Channel) : (s.deliverChannel v t c ch).panel = s.panel := by
  simp only [State.deliverChannel]; (repeat' split) <;> simp
@[simp] theorem State.deliverChannel_auth (v : Settings) (t : Txn) (c : BitVec 4) (ch : Channel) : (s.deliverChannel v t c ch).auth = s.auth := by
  simp only [State.deliverChannel]; (repeat' split) <;> simp
@[simp] theorem State.deliverChannel_store (v : Settings) (t : Txn) (c : BitVec 4) (ch : Channel) : (s.deliverChannel v t c ch).store = s.store := by
  simp only [State.deliverChannel]; (repeat' split) <;> simp

@[simp] theorem State.dim_pending : (s.dim).pending = s.pending := by
  simp [State.dim]
@[simp] theorem State.dim_clock : (s.dim).clock = s.clock := by
  simp [State.dim]
@[simp] theorem State.dim_races : (s.dim).races = s.races := by
  simp [State.dim]
@[simp] theorem State.dim_link : (s.dim).link = s.link := by
  simp [State.dim]
@[simp] theorem State.dim_sett : (s.dim).sett = s.sett := by
  simp [State.dim]
@[simp] theorem State.dim_chans : (s.dim).chans = s.chans := by
  simp [State.dim]
@[simp] theorem State.dim_trig : (s.dim).trig = s.trig := by
  simp [State.dim]
@[simp] theorem State.dim_acq : (s.dim).acq = s.acq := by
  simp [State.dim]
@[simp] theorem State.dim_panel : (s.dim).panel = s.panel := by
  simp [State.dim]
@[simp] theorem State.dim_auth : (s.dim).auth = s.auth := by
  simp [State.dim]
@[simp] theorem State.dim_store : (s.dim).store = s.store := by
  simp [State.dim]

@[simp] theorem State.brighten_pending (c : Cause) : (s.brighten c).pending = s.pending := by
  simp [State.brighten]
@[simp] theorem State.brighten_clock (c : Cause) : (s.brighten c).clock = s.clock := by
  simp [State.brighten]
@[simp] theorem State.brighten_races (c : Cause) : (s.brighten c).races = s.races := by
  simp [State.brighten]
@[simp] theorem State.brighten_sett (c : Cause) : (s.brighten c).sett = s.sett := by
  simp [State.brighten]
@[simp] theorem State.brighten_chans (c : Cause) : (s.brighten c).chans = s.chans := by
  simp [State.brighten]
@[simp] theorem State.brighten_trig (c : Cause) : (s.brighten c).trig = s.trig := by
  simp [State.brighten]
@[simp] theorem State.brighten_acq (c : Cause) : (s.brighten c).acq = s.acq := by
  simp [State.brighten]
@[simp] theorem State.brighten_panel (c : Cause) : (s.brighten c).panel = s.panel := by
  simp [State.brighten]
@[simp] theorem State.brighten_auth (c : Cause) : (s.brighten c).auth = s.auth := by
  simp [State.brighten]
@[simp] theorem State.brighten_store (c : Cause) : (s.brighten c).store = s.store := by
  simp [State.brighten]

@[simp] theorem State.restartIdle_pending : (s.restartIdle).pending = s.pending := rfl
@[simp] theorem State.restartIdle_clock : (s.restartIdle).clock = s.clock := rfl
@[simp] theorem State.restartIdle_races : (s.restartIdle).races = s.races := rfl
@[simp] theorem State.restartIdle_link : (s.restartIdle).link = s.link := rfl
@[simp] theorem State.restartIdle_sett : (s.restartIdle).sett = s.sett := rfl
@[simp] theorem State.restartIdle_chans : (s.restartIdle).chans = s.chans := rfl
@[simp] theorem State.restartIdle_trig : (s.restartIdle).trig = s.trig := rfl
@[simp] theorem State.restartIdle_acq : (s.restartIdle).acq = s.acq := rfl
@[simp] theorem State.restartIdle_cap : (s.restartIdle).cap = s.cap := rfl
@[simp] theorem State.restartIdle_rend : (s.restartIdle).rend = s.rend := rfl
@[simp] theorem State.restartIdle_panel : (s.restartIdle).panel = s.panel := rfl
@[simp] theorem State.restartIdle_auth : (s.restartIdle).auth = s.auth := rfl
@[simp] theorem State.restartIdle_store : (s.restartIdle).store = s.store := rfl

@[simp] theorem State.localPress_pending : (s.localPress.1).pending = s.pending := by
  unfold State.localPress; (repeat' split) <;> simp
@[simp] theorem State.localPress_clock : (s.localPress.1).clock = s.clock := by
  unfold State.localPress; (repeat' split) <;> simp
@[simp] theorem State.localPress_races : (s.localPress.1).races = s.races := by
  unfold State.localPress; (repeat' split) <;> simp
@[simp] theorem State.localPress_sett : (s.localPress.1).sett = s.sett := by
  unfold State.localPress; (repeat' split) <;> simp
@[simp] theorem State.localPress_chans : (s.localPress.1).chans = s.chans := by
  unfold State.localPress; (repeat' split) <;> simp
@[simp] theorem State.localPress_trig : (s.localPress.1).trig = s.trig := by
  unfold State.localPress; (repeat' split) <;> simp
@[simp] theorem State.localPress_acq : (s.localPress.1).acq = s.acq := by
  unfold State.localPress; (repeat' split) <;> simp
@[simp] theorem State.localPress_cap : (s.localPress.1).cap = s.cap := by
  unfold State.localPress; (repeat' split) <;> simp
@[simp] theorem State.localPress_rend : (s.localPress.1).rend = s.rend := by
  unfold State.localPress; (repeat' split) <;> simp
@[simp] theorem State.localPress_disp : (s.localPress.1).disp = s.disp := by
  unfold State.localPress; (repeat' split) <;> simp
@[simp] theorem State.localPress_panel : (s.localPress.1).panel = s.panel := by
  unfold State.localPress; (repeat' split) <;> simp
@[simp] theorem State.localPress_store : (s.localPress.1).store = s.store := by
  unfold State.localPress; (repeat' split) <;> simp

@[simp] theorem State.localLong_pending : (s.localLong.1).pending = s.pending := by
  unfold State.localLong; (repeat' split) <;> simp
@[simp] theorem State.localLong_clock : (s.localLong.1).clock = s.clock := by
  unfold State.localLong; (repeat' split) <;> simp
@[simp] theorem State.localLong_races : (s.localLong.1).races = s.races := by
  unfold State.localLong; (repeat' split) <;> simp
@[simp] theorem State.localLong_sett : (s.localLong.1).sett = s.sett := by
  unfold State.localLong; (repeat' split) <;> simp
@[simp] theorem State.localLong_chans : (s.localLong.1).chans = s.chans := by
  unfold State.localLong; (repeat' split) <;> simp
@[simp] theorem State.localLong_trig : (s.localLong.1).trig = s.trig := by
  unfold State.localLong; (repeat' split) <;> simp
@[simp] theorem State.localLong_acq : (s.localLong.1).acq = s.acq := by
  unfold State.localLong; (repeat' split) <;> simp
@[simp] theorem State.localLong_cap : (s.localLong.1).cap = s.cap := by
  unfold State.localLong; (repeat' split) <;> simp
@[simp] theorem State.localLong_rend : (s.localLong.1).rend = s.rend := by
  unfold State.localLong; (repeat' split) <;> simp
@[simp] theorem State.localLong_disp : (s.localLong.1).disp = s.disp := by
  unfold State.localLong; (repeat' split) <;> simp
@[simp] theorem State.localLong_panel : (s.localLong.1).panel = s.panel := by
  unfold State.localLong; (repeat' split) <;> simp
@[simp] theorem State.localLong_store : (s.localLong.1).store = s.store := by
  unfold State.localLong; (repeat' split) <;> simp

@[simp] theorem State.keyNotice_pending (k : Nat) (ev : KeyEvent) (a : KeyAction) (o : KeyOutcome) (st : Status) : (s.keyNotice k ev a o st).pending = s.pending := rfl
@[simp] theorem State.keyNotice_clock (k : Nat) (ev : KeyEvent) (a : KeyAction) (o : KeyOutcome) (st : Status) : (s.keyNotice k ev a o st).clock = s.clock := rfl
@[simp] theorem State.keyNotice_races (k : Nat) (ev : KeyEvent) (a : KeyAction) (o : KeyOutcome) (st : Status) : (s.keyNotice k ev a o st).races = s.races := rfl
@[simp] theorem State.keyNotice_sett (k : Nat) (ev : KeyEvent) (a : KeyAction) (o : KeyOutcome) (st : Status) : (s.keyNotice k ev a o st).sett = s.sett := rfl
@[simp] theorem State.keyNotice_chans (k : Nat) (ev : KeyEvent) (a : KeyAction) (o : KeyOutcome) (st : Status) : (s.keyNotice k ev a o st).chans = s.chans := rfl
@[simp] theorem State.keyNotice_trig (k : Nat) (ev : KeyEvent) (a : KeyAction) (o : KeyOutcome) (st : Status) : (s.keyNotice k ev a o st).trig = s.trig := rfl
@[simp] theorem State.keyNotice_acq (k : Nat) (ev : KeyEvent) (a : KeyAction) (o : KeyOutcome) (st : Status) : (s.keyNotice k ev a o st).acq = s.acq := rfl
@[simp] theorem State.keyNotice_cap (k : Nat) (ev : KeyEvent) (a : KeyAction) (o : KeyOutcome) (st : Status) : (s.keyNotice k ev a o st).cap = s.cap := rfl
@[simp] theorem State.keyNotice_rend (k : Nat) (ev : KeyEvent) (a : KeyAction) (o : KeyOutcome) (st : Status) : (s.keyNotice k ev a o st).rend = s.rend := rfl
@[simp] theorem State.keyNotice_disp (k : Nat) (ev : KeyEvent) (a : KeyAction) (o : KeyOutcome) (st : Status) : (s.keyNotice k ev a o st).disp = s.disp := rfl
@[simp] theorem State.keyNotice_panel (k : Nat) (ev : KeyEvent) (a : KeyAction) (o : KeyOutcome) (st : Status) : (s.keyNotice k ev a o st).panel = s.panel := rfl
@[simp] theorem State.keyNotice_auth (k : Nat) (ev : KeyEvent) (a : KeyAction) (o : KeyOutcome) (st : Status) : (s.keyNotice k ev a o st).auth = s.auth := rfl
@[simp] theorem State.keyNotice_store (k : Nat) (ev : KeyEvent) (a : KeyAction) (o : KeyOutcome) (st : Status) : (s.keyNotice k ev a o st).store = s.store := rfl

@[simp] theorem State.encoderNotice_pending (e : Nat) (d : Int) (r : Bool) : (s.encoderNotice e d r).pending = s.pending := rfl
@[simp] theorem State.encoderNotice_clock (e : Nat) (d : Int) (r : Bool) : (s.encoderNotice e d r).clock = s.clock := rfl
@[simp] theorem State.encoderNotice_races (e : Nat) (d : Int) (r : Bool) : (s.encoderNotice e d r).races = s.races := rfl
@[simp] theorem State.encoderNotice_sett (e : Nat) (d : Int) (r : Bool) : (s.encoderNotice e d r).sett = s.sett := rfl
@[simp] theorem State.encoderNotice_chans (e : Nat) (d : Int) (r : Bool) : (s.encoderNotice e d r).chans = s.chans := rfl
@[simp] theorem State.encoderNotice_trig (e : Nat) (d : Int) (r : Bool) : (s.encoderNotice e d r).trig = s.trig := rfl
@[simp] theorem State.encoderNotice_acq (e : Nat) (d : Int) (r : Bool) : (s.encoderNotice e d r).acq = s.acq := rfl
@[simp] theorem State.encoderNotice_cap (e : Nat) (d : Int) (r : Bool) : (s.encoderNotice e d r).cap = s.cap := rfl
@[simp] theorem State.encoderNotice_rend (e : Nat) (d : Int) (r : Bool) : (s.encoderNotice e d r).rend = s.rend := rfl
@[simp] theorem State.encoderNotice_disp (e : Nat) (d : Int) (r : Bool) : (s.encoderNotice e d r).disp = s.disp := rfl
@[simp] theorem State.encoderNotice_panel (e : Nat) (d : Int) (r : Bool) : (s.encoderNotice e d r).panel = s.panel := rfl
@[simp] theorem State.encoderNotice_auth (e : Nat) (d : Int) (r : Bool) : (s.encoderNotice e d r).auth = s.auth := rfl
@[simp] theorem State.encoderNotice_store (e : Nat) (d : Int) (r : Bool) : (s.encoderNotice e d r).store = s.store := rfl

@[simp] theorem State.putKey_pending (k : Nat) (x : Key) : (s.putKey k x).pending = s.pending := rfl
@[simp] theorem State.putKey_clock (k : Nat) (x : Key) : (s.putKey k x).clock = s.clock := rfl
@[simp] theorem State.putKey_races (k : Nat) (x : Key) : (s.putKey k x).races = s.races := rfl
@[simp] theorem State.putKey_link (k : Nat) (x : Key) : (s.putKey k x).link = s.link := rfl
@[simp] theorem State.putKey_sett (k : Nat) (x : Key) : (s.putKey k x).sett = s.sett := rfl
@[simp] theorem State.putKey_chans (k : Nat) (x : Key) : (s.putKey k x).chans = s.chans := rfl
@[simp] theorem State.putKey_trig (k : Nat) (x : Key) : (s.putKey k x).trig = s.trig := rfl
@[simp] theorem State.putKey_acq (k : Nat) (x : Key) : (s.putKey k x).acq = s.acq := rfl
@[simp] theorem State.putKey_cap (k : Nat) (x : Key) : (s.putKey k x).cap = s.cap := rfl
@[simp] theorem State.putKey_rend (k : Nat) (x : Key) : (s.putKey k x).rend = s.rend := rfl
@[simp] theorem State.putKey_disp (k : Nat) (x : Key) : (s.putKey k x).disp = s.disp := rfl
@[simp] theorem State.putKey_auth (k : Nat) (x : Key) : (s.putKey k x).auth = s.auth := rfl
@[simp] theorem State.putKey_store (k : Nat) (x : Key) : (s.putKey k x).store = s.store := rfl

@[simp] theorem State.putSlot_pending (n : Nat) (x : Sector) (e : Entry) : (s.putSlot n x e).pending = s.pending := rfl
@[simp] theorem State.putSlot_clock (n : Nat) (x : Sector) (e : Entry) : (s.putSlot n x e).clock = s.clock := rfl
@[simp] theorem State.putSlot_races (n : Nat) (x : Sector) (e : Entry) : (s.putSlot n x e).races = s.races := rfl
@[simp] theorem State.putSlot_link (n : Nat) (x : Sector) (e : Entry) : (s.putSlot n x e).link = s.link := rfl
@[simp] theorem State.putSlot_sett (n : Nat) (x : Sector) (e : Entry) : (s.putSlot n x e).sett = s.sett := rfl
@[simp] theorem State.putSlot_chans (n : Nat) (x : Sector) (e : Entry) : (s.putSlot n x e).chans = s.chans := rfl
@[simp] theorem State.putSlot_trig (n : Nat) (x : Sector) (e : Entry) : (s.putSlot n x e).trig = s.trig := rfl
@[simp] theorem State.putSlot_acq (n : Nat) (x : Sector) (e : Entry) : (s.putSlot n x e).acq = s.acq := rfl
@[simp] theorem State.putSlot_cap (n : Nat) (x : Sector) (e : Entry) : (s.putSlot n x e).cap = s.cap := rfl
@[simp] theorem State.putSlot_rend (n : Nat) (x : Sector) (e : Entry) : (s.putSlot n x e).rend = s.rend := rfl
@[simp] theorem State.putSlot_disp (n : Nat) (x : Sector) (e : Entry) : (s.putSlot n x e).disp = s.disp := rfl
@[simp] theorem State.putSlot_panel (n : Nat) (x : Sector) (e : Entry) : (s.putSlot n x e).panel = s.panel := rfl
@[simp] theorem State.putSlot_auth (n : Nat) (x : Sector) (e : Entry) : (s.putSlot n x e).auth = s.auth := rfl

@[simp] theorem State.reportOp_pending (op : Op) (st : Status) : (s.reportOp op st).pending = s.pending := by
  simp only [State.reportOp]; (repeat' split) <;> simp
@[simp] theorem State.reportOp_clock (op : Op) (st : Status) : (s.reportOp op st).clock = s.clock := by
  simp only [State.reportOp]; (repeat' split) <;> simp
@[simp] theorem State.reportOp_races (op : Op) (st : Status) : (s.reportOp op st).races = s.races := by
  simp only [State.reportOp]; (repeat' split) <;> simp
@[simp] theorem State.reportOp_sett (op : Op) (st : Status) : (s.reportOp op st).sett = s.sett := by
  simp only [State.reportOp]; (repeat' split) <;> simp
@[simp] theorem State.reportOp_chans (op : Op) (st : Status) : (s.reportOp op st).chans = s.chans := by
  simp only [State.reportOp]; (repeat' split) <;> simp
@[simp] theorem State.reportOp_trig (op : Op) (st : Status) : (s.reportOp op st).trig = s.trig := by
  simp only [State.reportOp]; (repeat' split) <;> simp
@[simp] theorem State.reportOp_acq (op : Op) (st : Status) : (s.reportOp op st).acq = s.acq := by
  simp only [State.reportOp]; (repeat' split) <;> simp
@[simp] theorem State.reportOp_cap (op : Op) (st : Status) : (s.reportOp op st).cap = s.cap := by
  simp only [State.reportOp]; (repeat' split) <;> simp
@[simp] theorem State.reportOp_rend (op : Op) (st : Status) : (s.reportOp op st).rend = s.rend := by
  simp only [State.reportOp]; (repeat' split) <;> simp
@[simp] theorem State.reportOp_disp (op : Op) (st : Status) : (s.reportOp op st).disp = s.disp := by
  simp only [State.reportOp]; (repeat' split) <;> simp
@[simp] theorem State.reportOp_panel (op : Op) (st : Status) : (s.reportOp op st).panel = s.panel := by
  simp only [State.reportOp]; (repeat' split) <;> simp
@[simp] theorem State.reportOp_auth (op : Op) (st : Status) : (s.reportOp op st).auth = s.auth := by
  simp only [State.reportOp]; (repeat' split) <;> simp
@[simp] theorem State.reportOp_store (op : Op) (st : Status) : (s.reportOp op st).store = s.store := by
  simp only [State.reportOp]; (repeat' split) <;> simp

end Sys2Proof.Machine
end

