-- ==== Sys2Proof/Laws/Capture.lean ====
section
/-! SUPPORT. What the shared operations of a run and of a settings transaction do, each said once: accepting a trigger,
being given a segment, asking CAP together with REND, entering STOPPED, recomputing the codes, and writes in turn. -/

namespace Sys2Proof.Machine

variable (s : State)

/-- R49, R65: accepting a trigger, all of it. -/
theorem State.acceptTrigger_eq (f : Forced) : s.acceptTrigger f = s.triggered f := by
  have h : holdoffStart s.sett.vals = if s.sett.vals.trigHoldoff ≤ 0 then none
      else some ⟨s.sett.vals.trigHoldoff.toNat, 0⟩ := by
    unfold holdoffStart Timer.start
    by_cases h : s.sett.vals.trigHoldoff ≤ 0
    · rw [if_pos (Int.toNat_of_nonpos h), if_pos h]
    · rw [if_neg (by omega), if_neg h]
  simp only [State.acceptTrigger, State.triggered, State.setTrig, State.setAcq, State.setCap, h]

/-- R54, R63, R64: ACQ after it is given a segment. -/
theorem State.giveSegment_acq (i : Nat) : (s.giveSegment i).acq = Acq.filling { s.acq with inFlight := some i } s.trig := by
  rcases hh : s.trig.holdoff with _ | x <;> by_cases hq : s.acq.q = 0 <;> by_cases hf : s.trig.force = true <;>
    by_cases hm : s.sett.vals.trigMode = 0 <;>
    simp [State.giveSegment, State.reachDepth, State.enterReady, State.startAuto, State.acceptTrigger, Acq.filling,
      State.setAcq, State.setTrig, State.setCap, hh, hq, hf, hm]

/-- R63, R76, R78: the segment that is given, and the other ones. -/
theorem State.giveSegment_seg (i j : Nat) (h : i < s.cap.segs.length) : (s.giveSegment i).cap.seg j
    = if j = i then .filling s.sett.vals.enabled (s.sett.vals.enabled.inter s.latched) else s.cap.seg j := by
  have key : (s.giveSegment i).cap.segs
      = s.cap.segs.set i (.filling s.sett.vals.enabled (s.sett.vals.enabled.inter s.latched)) := by
    rcases hh : s.trig.holdoff with _ | x <;> by_cases hq : s.acq.q = 0 <;> by_cases hf : s.trig.force = true <;>
      by_cases hm : s.sett.vals.trigMode = 0 <;>
      simp [State.giveSegment, State.reachDepth, State.enterReady, State.startAuto, State.acceptTrigger, Cap.putSeg,
        State.setAcq, State.setTrig, State.setCap, hh, hq, hf, hm]
  unfold Cap.seg
  rw [key]
  by_cases hj : j = i
  · subst hj
    simp [h]
  · simp [hj, List.getD_eq_getElem?_getD, List.getElem?_set_ne (Ne.symm hj)]

/-- R78, R93, R94: ACQ and REND ask CAP together. REND names no segment; or both have what they ask for; or ACQ's request is
for the segment that REND names, and one of them has it. -/
theorem State.contend_cases (ask : State → State) :
    (s.drawNamed = none ∧ s.contend ask = ask s)
    ∨ (∃ i, s.drawNamed = some i ∧ (ask s).askDraw i = some (s.contend ask))
    ∨ (∃ i, s.drawNamed = some i ∧ (ask s).askDraw i = none ∧ Config.holdFirst s.races = true
        ∧ s.contend ask = (ask s.examineDraw).setRaces (s.races + 1))
    ∨ (∃ i, s.drawNamed = some i ∧ (ask s).askDraw i = none ∧ Config.holdFirst s.races = false
        ∧ s.contend ask = (ask s).examineDraw.setRaces (s.races + 1)) := by
  unfold State.contend
  cases s.drawNamed with
  | none => exact .inl ⟨rfl, rfl⟩
  | some i =>
    cases ha : (ask s).askDraw i with
    | some t => exact .inr (.inl ⟨i, rfl, by simp [ha]⟩)
    | none =>
      cases hf : Config.holdFirst s.races with
      | true => exact .inr (.inr (.inl ⟨i, rfl, ha, rfl, by simp [ha]⟩))
      | false => exact .inr (.inr (.inr ⟨i, rfl, ha, rfl, by simp [ha]⟩))

/-- R94: CAP refuses REND's request just when the segment is not COMPLETE. -/
theorem State.askDraw_eq_none {i : Nat} : s.askDraw i = none ↔ ∀ f, s.cap.seg i ≠ .complete f := by
  unfold State.askDraw
  cases s.cap.seg i <;> simp

/-- R50, R51, R54, R67: ACQ after it enters STOPPED. -/
theorem State.enterStopped_acq (cause : StopCause) : (s.enterStopped cause).acq
    = { s.acq with state := .stopped, stopPending := false, inFlight := none, depth := false } := by
  simp [State.enterStopped, State.setAcq, State.setTrig, State.setCap]

/-- R40 to R42, R47: recomputed, TRIG's codes and width limits are those of the values standing. -/
theorem State.recode_relimit_codesStand : s.recode.relimit.codesStand = true := by
  have key (x : Int) : x ≠ clampInt x 0 255 ↔ x < 0 ∨ 255 < x := by
    unfold clampInt
    split <;> (try split) <;> omega
  cases h : s.sett.vals.source <;>
    simp only [State.codesStand, State.recode, State.relimit, State.setTrig, widthSamples, rawCode, rawLadder, h, key,
      Bool.and_eq_true, beq_iff_eq, and_self]
  exact ⟨⟨⟨trivial, by congr⟩, trivial⟩, trivial⟩

/-- R148: with no second change due nothing more is presented. -/
@[simp] theorem State.presentStart_none (e : Nat) : s.presentStart e none = s := rfl

/-! ## Writes in turn -/

theorem Settings.put_get (v : Settings) (k : Setting) : v.put k (v.get k) = v := by
  cases k <;> first | rfl | (rename_i ch; cases ch <;> rfl)

theorem Settings.get_put (v : Settings) (k : Setting) (x : Int) : (v.put k x).get k = x := by
  cases k <;> first | rfl | (rename_i ch; cases ch <;> rfl)

/-- R3, R4: a value is stored whether or not it differs. -/
theorem Txn.store_vals (t : Txn) (k : Setting) (x : Int) (o : Origin) :
    (t.store k x o).vals = t.vals.put k (t.vals.effective k x) := by
  simp only [Txn.store]
  split
  · next h => rw [h, Settings.put_get]
  · rfl

theorem Txn.reclamp_vals (t : Txn) (k : Setting) : (t.reclamp k).vals = t.vals.reclamped k := Txn.store_vals _ _ _ _

/-- R3 to R5: the table after one write. -/
theorem Txn.write_vals (t : Txn) (k : Setting) (x : Int) (o : Origin) : (t.write k x o).vals = t.vals.written k x := by
  unfold Txn.write Settings.written
  simp only [Txn.store_vals, Settings.get_put]
  by_cases h : t.vals.effective k x = t.vals.get k
  · rw [if_pos h, if_pos (by exact h)]
  · rw [if_neg h, if_neg (by exact h)]
    cases k <;> simp only [Txn.derive, Txn.reclamp_vals, Txn.store_vals] <;> rfl

/-- R3 to R5: the table after writes in turn, and whether one of them was clamped. -/
theorem Txn.writes_eq (o : Origin) (ws : List (Setting × Int)) (t : Txn) :
    (Txn.writes o t ws).1.vals = t.vals.writtenAll ws ∧ (Txn.writes o t ws).2 = t.vals.clampsIn ws := by
  induction ws generalizing t with
  | nil => exact ⟨rfl, rfl⟩
  | cons w r ih =>
    obtain ⟨k, x⟩ := w
    have c : t.clamps k x = decide (x < (t.vals.range k).1 ∨ (t.vals.range k).2 < x) := by
      unfold Txn.clamps Settings.effective clampInt
      congr 1
      apply propext
      split <;> (try split) <;> omega
    simp only [Txn.writes, Settings.writtenAll, Settings.clampsIn, ih, Txn.write_vals, c, and_self]

end Sys2Proof.Machine
end

