-- ==== Sys2Proof/Laws/Quad.lean ====
section
/-! SUPPORT. One value per channel: reading after a change, and two changes of one channel. -/

namespace Sys2Proof

variable {α : Type}

@[simp] theorem Quad.get_put_same (q : Quad α) (ch : Channel) (x : α) : (q.put ch x).get ch = x := by cases ch <;> rfl

theorem Quad.get_put_other (q : Quad α) {ch c : Channel} (x : α) (h : c ≠ ch) : (q.put ch x).get c = q.get c := by
  cases ch <;> cases c <;> first | rfl | exact absurd rfl h

@[simp] theorem Quad.put_put (q : Quad α) (ch : Channel) (x y : α) : (q.put ch x).put ch y = q.put ch y := by
  cases ch <;> rfl

@[simp] theorem Quad.put_get (q : Quad α) (ch : Channel) : q.put ch (q.get ch) = q := by cases ch <;> rfl

@[simp] theorem Quad.get_of (f : Channel → α) (ch : Channel) : (Quad.of f).get ch = f ch := by cases ch <;> rfl

@[simp] theorem Quad.get_map {β : Type} (f : α → β) (q : Quad α) (ch : Channel) : (q.map f).get ch = f (q.get ch) := by
  cases ch <;> rfl

@[simp] theorem Channel.ofNum?_num (ch : Channel) : Channel.ofNum? ch.num = some ch := by cases ch <;> rfl

end Sys2Proof
end

