-- ==== Sys2Proof/Laws/Link.lean ====
section
/-! SUPPORT. What LINK does with a notice, a reply, a request and a clocked byte. -/

namespace Sys2Proof.Machine

/-! ## What a presented notice and a queued reply make of LINK -/

@[simp] theorem State.present_link (s : State) (n : Notice) : (s.present n).link = s.link.present n := rfl
@[simp] theorem State.reply_link (s : State) (tag : Byte) (body : List Byte) :
    (s.reply tag body).link = s.link.reply tag body := rfl

/-! ## Notices change only the notice queue and the lost count -/

/-- Presenting a notice changes at most the notice queue and the lost-notice count. -/
theorem Link.present_parts (l : Link) (n : Notice) :
    ∃ ns k, l.present n = { l with notices := ns, lost := k } := by
  unfold Link.present
  split
  · unfold Link.enqueue
    (repeat' split) <;> exact ⟨_, _, rfl⟩
  · exact ⟨_, _, rfl⟩

@[simp] theorem Link.present_rx (l : Link) (n : Notice) : (l.present n).rx = l.rx := by
  obtain ⟨_, _, h⟩ := l.present_parts n; rw [h]
@[simp] theorem Link.present_table (l : Link) (n : Notice) : (l.present n).table = l.table := by
  obtain ⟨_, _, h⟩ := l.present_parts n; rw [h]
@[simp] theorem Link.present_replies (l : Link) (n : Notice) : (l.present n).replies = l.replies := by
  obtain ⟨_, _, h⟩ := l.present_parts n; rw [h]
@[simp] theorem Link.present_outBuf (l : Link) (n : Notice) : (l.present n).outBuf = l.outBuf := by
  obtain ⟨_, _, h⟩ := l.present_parts n; rw [h]
@[simp] theorem Link.present_mask (l : Link) (n : Notice) : (l.present n).mask = l.mask := by
  obtain ⟨_, _, h⟩ := l.present_parts n; rw [h]
@[simp] theorem Link.present_errors (l : Link) (n : Notice) : (l.present n).errors = l.errors := by
  obtain ⟨_, _, h⟩ := l.present_parts n; rw [h]
@[simp] theorem Link.present_started (l : Link) (n : Notice) : (l.present n).started = l.started := by
  obtain ⟨_, _, h⟩ := l.present_parts n; rw [h]
@[simp] theorem Link.present_todSet (l : Link) (n : Notice) : (l.present n).todSet = l.todSet := by
  obtain ⟨_, _, h⟩ := l.present_parts n; rw [h]
@[simp] theorem Link.present_tod (l : Link) (n : Notice) : (l.present n).tod = l.tod := by
  obtain ⟨_, _, h⟩ := l.present_parts n; rw [h]

/-- A masked notice changes nothing (R183). -/
theorem Link.present_masked {l : Link} {n : Notice} (h : l.mask.getLsbD n.kindNo = false) : l.present n = l := by
  simp [Link.present, h]

/-- A notice is presented in the same way whatever stands in the pending-request table. -/
theorem Link.present_withTable (l : Link) (n : Notice) (t : List PendingReq) :
    Link.present { l with table := t } n = { l.present n with table := t } := by
  unfold Link.present Link.enqueue Link.sharedUsed
  simp only
  repeat' split
  all_goals rfl

/-! ## Replies -/

/-- The table's first entry with a tag, in a table whose last entry alone has it. -/
theorem find_entered {tag : Byte} {k : ReqKind} : ∀ {t : List PendingReq}, t.any (fun p => p.tag = tag) = false →
    (t ++ [PendingReq.mk tag k]).find? (fun p => p.tag = tag) = some ⟨tag, k⟩
  | [], _ => by simp
  | p :: t, h => by
    simp only [List.any_cons, Bool.or_eq_false_iff, decide_eq_false_iff_not] at h
    rw [List.cons_append, List.find?_cons_of_neg (by simpa using h.1), find_entered h.2]

theorem erase_entered {tag : Byte} {k : ReqKind} : ∀ {t : List PendingReq}, t.any (fun p => p.tag = tag) = false →
    (t ++ [PendingReq.mk tag k]).eraseP (fun p => p.tag = tag) = t
  | [], _ => by simp
  | p :: t, h => by
    simp only [List.any_cons, Bool.or_eq_false_iff, decide_eq_false_iff_not] at h
    rw [List.cons_append, List.eraseP_cons_of_neg (by simpa using h.1), erase_entered h.2]

/-- The owner's reply to the request just entered leaves LINK as an answer given at once. -/
theorem Link.reply_entered {l : Link} {tag : Byte} {k : ReqKind} (body : List Byte)
    (h : l.table.any (fun p => p.tag = tag) = false) :
    Link.reply { l with table := l.table ++ [⟨tag, k⟩] } tag body = l.answer k.code tag body := by
  unfold Link.reply
  simp only [find_entered h, erase_entered h]
  rfl

/-- A reply to the newest request of a table, which alone has its tag, takes it off and joins the reply queue. -/
theorem Link.reply_newest {l : Link} {table : List PendingReq} {tag : Byte} {k : ReqKind} (body : List Byte)
    (h : table.any (fun p => p.tag = tag) = false) (hl : l.table = table ++ [⟨tag, k⟩]) :
    l.reply tag body = Link.answer { l with table := table } k.code tag body := by
  unfold Link.reply
  rw [hl]
  simp only [find_entered h, erase_entered h]
  rfl

/-- A reply queued for a request just entered. -/
theorem State.reply_entered {s : State} {tag : Byte} {k : ReqKind} (body : List Byte)
    (h : s.link.table.any (fun p => p.tag = tag) = false) : (s.entered k tag).reply tag body = s.answered k tag body := by
  simp [State.reply, State.entered, State.answered, Link.reply_entered body h]

/-! ## A request entered, and a request answered, touch LINK alone -/

section Touch
variable (s : State) (k : ReqKind) (tag : Byte) (body : List Byte)

@[simp] theorem State.entered_pending : (s.entered k tag).pending = s.pending := rfl
@[simp] theorem State.entered_clock : (s.entered k tag).clock = s.clock := rfl
@[simp] theorem State.entered_sett : (s.entered k tag).sett = s.sett := rfl
@[simp] theorem State.entered_chans : (s.entered k tag).chans = s.chans := rfl
@[simp] theorem State.entered_trig : (s.entered k tag).trig = s.trig := rfl
@[simp] theorem State.entered_acq : (s.entered k tag).acq = s.acq := rfl
@[simp] theorem State.entered_cap : (s.entered k tag).cap = s.cap := rfl
@[simp] theorem State.entered_rend : (s.entered k tag).rend = s.rend := rfl
@[simp] theorem State.entered_disp : (s.entered k tag).disp = s.disp := rfl
@[simp] theorem State.entered_panel : (s.entered k tag).panel = s.panel := rfl
@[simp] theorem State.entered_auth : (s.entered k tag).auth = s.auth := rfl
@[simp] theorem State.entered_store : (s.entered k tag).store = s.store := rfl
@[simp] theorem State.answered_pending : (s.answered k tag body).pending = s.pending := rfl
@[simp] theorem State.answered_clock : (s.answered k tag body).clock = s.clock := rfl
@[simp] theorem State.answered_sett : (s.answered k tag body).sett = s.sett := rfl
@[simp] theorem State.answered_chans : (s.answered k tag body).chans = s.chans := rfl
@[simp] theorem State.answered_trig : (s.answered k tag body).trig = s.trig := rfl
@[simp] theorem State.answered_acq : (s.answered k tag body).acq = s.acq := rfl
@[simp] theorem State.answered_cap : (s.answered k tag body).cap = s.cap := rfl
@[simp] theorem State.answered_rend : (s.answered k tag body).rend = s.rend := rfl
@[simp] theorem State.answered_disp : (s.answered k tag body).disp = s.disp := rfl
@[simp] theorem State.answered_panel : (s.answered k tag body).panel = s.panel := rfl
@[simp] theorem State.answered_auth : (s.answered k tag body).auth = s.auth := rfl
@[simp] theorem State.answered_store : (s.answered k tag body).store = s.store := rfl
@[simp] theorem State.entered_link :
    (s.entered k tag).link = { s.link with table := s.link.table ++ [⟨tag, k⟩] } := rfl
@[simp] theorem State.answered_link : (s.answered k tag body).link = s.link.answer k.code tag body := rfl

end Touch

/-! ## Taking a request (R178, R180, R181) -/

/-- An accepted request has a tag of its own. -/
theorem State.accepts_fresh {s : State} {k : ReqKind} {tag : Byte} {body : List Byte} (h : s.accepts k tag body) :
    s.link.table.any (fun p => p.tag = tag) = false := by
  have h := h.2.2
  unfold Link.check at h
  by_contra hc
  simp only [Bool.not_eq_false] at hc
  simp only [hc, if_true] at h
  split at h <;> simp at h

/-- A request that LINK accepts is entered and handed to its owner. -/
theorem State.request_accepted {s : State} {k : ReqKind} {tag : Byte} {body : List Byte} {owner : State → Result}
    (h : s.accepts k tag body) : s.request k tag body owner = owner (s.entered k tag) := by
  obtain ⟨h1, h2, h3⟩ := h
  have h2' : ¬ 16 ≤ s.link.used := by omega
  simp [State.request, h1, h2', h3, State.entered]

/-- A request that a check of R181 answers leaves the reply and changes nothing else. -/
theorem State.request_refused {s : State} {k : ReqKind} {tag : Byte} {body : List Byte} {owner : State → Result}
    {st : Status} (h1 : s.link.rx = .awaitingSync) (h2 : s.link.used < 16)
    (h3 : s.link.check k tag body = some st) : s.request k tag body owner = .next (s.answered k tag [st.code]) := by
  have h2' : ¬ 16 ≤ s.link.used := by omega
  simp [State.request, h1, h2', h3, State.answered]

/-- A request that finds 16 places used is discarded as a link error. -/
theorem State.request_noRoom {s : State} {k : ReqKind} {tag : Byte} {body : List Byte} {owner : State → Result}
    (h1 : s.link.rx = .awaitingSync) (h2 : 16 ≤ s.link.used) :
    s.request k tag body owner = .next (s.setLink (s.link.error .noRoom)) := by
  simp [State.request, h1, h2]

/-- Whatever a request's frame meets before its owner, the state goes on. -/
theorem State.request_cases (s : State) (k : ReqKind) (tag : Byte) (body : List Byte) (owner : State → Result) :
    s.request k tag body owner = .next s ∨
    s.request k tag body owner = .next (s.setLink (s.link.error .noRoom)) ∨
    (∃ st : Status, s.request k tag body owner = .next (s.answered k tag [st.code])) ∨
    (s.accepts k tag body ∧ s.request k tag body owner = owner (s.entered k tag)) := by
  by_cases h1 : s.link.rx = .ignoring
  · left; simp [State.request, h1]
  · have h1' : s.link.rx = .awaitingSync := by
      cases h : s.link.rx with
      | awaitingSync => rfl
      | ignoring => exact absurd h h1
    by_cases h2 : 16 ≤ s.link.used
    · right; left; exact State.request_noRoom h1' h2
    · right; right
      have h2' : s.link.used < 16 := by omega
      cases h3 : s.link.check k tag body with
      | some st => left; exact ⟨st, State.request_refused h1' h2' h3⟩
      | none => right; exact ⟨⟨h1', h2', h3⟩, State.request_accepted ⟨h1', h2', h3⟩⟩

/-! ## Bytes clocked out (R182) -/

/-- A frame in the buffer is chosen already. -/
@[simp] theorem Link.chooseFrame_of_some (l : Link) (f : OutFrame) (h : l.outBuf = some f) : l.chooseFrame = l := by
  simp [Link.chooseFrame, h]

/-- With the buffer and both queues empty no frame is chosen. -/
theorem Link.chooseFrame_of_empty (l : Link) (h : l.outBuf = none) (hr : l.replies = []) (hn : l.notices = []) :
    l.chooseFrame = l := by
  simp [Link.chooseFrame, h, hr, hn]

/-- A clock with a frame in the buffer: its next byte goes out, and with the last the buffer is empty. -/
theorem Link.clockByte_of_some (l : Link) (f : OutFrame) (h : l.outBuf = some f) :
    l.byteOut = f.bytes.getD f.sent 0 ∧ l.clockByte = { l with outBuf := f.sendByte } := by
  simp [Link.byteOut, Link.clockByte, h]

/-- A clock with nothing to send: 0x00 goes out, and nothing changes. -/
theorem Link.clockByte_of_empty (l : Link) (h : l.outBuf = none) (hr : l.replies = []) (hn : l.notices = []) :
    l.byteOut = 0 ∧ l.clockByte = l := by
  cases l
  subst h hr hn
  exact ⟨rfl, rfl⟩

end Sys2Proof.Machine
end

