-- ==== Sys2Proof/Laws/Mem.lean ====
section
/-! SUPPORT. Byte memories: a read after a write, and the canonical form that every memory operation keeps. -/

namespace Sys2Proof.Machine

theorem Mem.wfFrom_mono {lo lo' : Nat} (h : lo' ≤ lo) : ∀ {m : Mem}, Mem.wfFrom lo m = true → Mem.wfFrom lo' m = true
  | [], _ => rfl
  | (k, b) :: r, hm => by
    simp only [Mem.wfFrom, Bool.and_eq_true, decide_eq_true_eq] at hm ⊢
    exact ⟨⟨by omega, hm.1.2⟩, hm.2⟩

/-- Below its first address a memory reads as unlisted. -/
theorem Mem.read_below {lo a : Nat} (h : a < lo) : ∀ {m : Mem}, Mem.wfFrom lo m = true → Mem.read m a = 0
  | [], _ => rfl
  | (k, b) :: r, hm => by
    simp only [Mem.wfFrom, Bool.and_eq_true, decide_eq_true_eq] at hm
    have hk : k ≠ a := by omega
    simp only [Mem.read, hk, if_false]
    exact Mem.read_below (by omega) hm.2

theorem Mem.wfFrom_write {a : Nat} {b : Byte} : ∀ {m : Mem} {lo : Nat}, lo ≤ a → Mem.wfFrom lo m = true →
    Mem.wfFrom lo (Mem.write m a b) = true
  | [], lo, h, _ => by
    unfold Mem.write
    split
    · rfl
    · next hb => simp only [Mem.wfFrom, Bool.and_true, Bool.and_eq_true, decide_eq_true_eq]; exact ⟨h, hb⟩
  | (k, c) :: r, lo, h, hm => by
    have hm' := hm
    simp only [Mem.wfFrom, Bool.and_eq_true, decide_eq_true_eq] at hm
    unfold Mem.write
    split
    · next hlt =>
      by_cases hb : b = 0
      · simpa [hb] using hm'
      · simp only [hb, if_false, Mem.wfFrom, Bool.and_eq_true, decide_eq_true_eq, ne_eq, not_false_eq_true]
        exact ⟨⟨h, trivial⟩, ⟨by omega, hm.1.2⟩, hm.2⟩
    · split
      · next heq =>
        by_cases hb : b = 0
        · simpa [hb] using Mem.wfFrom_mono (by omega) hm.2
        · simp only [hb, if_false, Mem.wfFrom, Bool.and_eq_true, decide_eq_true_eq, ne_eq, not_false_eq_true]
          exact ⟨⟨hm.1.1, trivial⟩, hm.2⟩
      · next hlt hne =>
        simp only [Mem.wfFrom, Bool.and_eq_true, decide_eq_true_eq]
        exact ⟨hm.1, Mem.wfFrom_write (by omega) hm.2⟩

/-- A write keeps the canonical form. -/
theorem Mem.wf_write {m : Mem} (h : m.wf = true) (a : Nat) (b : Byte) : (m.write a b).wf = true :=
  Mem.wfFrom_write (Nat.zero_le a) h

theorem Mem.wfFrom_mapBytes (f : Byte → Byte) : ∀ {m : Mem} {lo : Nat}, Mem.wfFrom lo m = true →
    Mem.wfFrom lo (Mem.mapBytes f m) = true
  | [], _, _ => rfl
  | (k, b) :: r, lo, hm => by
    simp only [Mem.wfFrom, Bool.and_eq_true, decide_eq_true_eq] at hm
    unfold Mem.mapBytes
    split
    · exact Mem.wfFrom_mono (by omega) (Mem.wfFrom_mapBytes f hm.2)
    · next hb =>
      simp only [Mem.wfFrom, Bool.and_eq_true, decide_eq_true_eq]
      exact ⟨⟨hm.1.1, hb⟩, Mem.wfFrom_mapBytes f hm.2⟩

/-- A function applied to every byte keeps the canonical form. -/
theorem Mem.wf_mapBytes {m : Mem} (h : m.wf = true) (f : Byte → Byte) : (m.mapBytes f).wf = true :=
  Mem.wfFrom_mapBytes f h

/-- Writes in turn keep the canonical form. -/
theorem Mem.wf_foldl_write {α : Type} (key : α → Nat) (val : Mem → α → Byte) :
    ∀ {l : List α} {m : Mem}, m.wf = true → (l.foldl (fun m x => m.write (key x) (val m x)) m).wf = true
  | [], _, h => h
  | x :: l, _, h => Mem.wf_foldl_write key val (l := l) (Mem.wf_write h (key x) _)

theorem Mem.read_write_from {a : Nat} {b : Byte} : ∀ {m : Mem} {lo : Nat}, Mem.wfFrom lo m = true →
    Mem.read (Mem.write m a b) a = b
  | [], _, _ => by
    unfold Mem.write
    split
    · next hb => exact hb.symm
    · simp only [Mem.read, if_true]
  | (k, c) :: r, lo, hm => by
    simp only [Mem.wfFrom, Bool.and_eq_true, decide_eq_true_eq] at hm
    unfold Mem.write
    split
    · next hlt =>
      by_cases hb : b = 0
      · have hk : k ≠ a := by omega
        simp only [hb, if_true, Mem.read, hk, if_false]
        exact Mem.read_below (by omega) hm.2
      · simp only [hb, if_false, Mem.read, if_true]
    · split
      · next heq =>
        by_cases hb : b = 0
        · simp only [hb, if_true]
          exact Mem.read_below (by omega) hm.2
        · simp only [hb, if_false, Mem.read, heq, if_true]
      · next hlt hne =>
        have hk : k ≠ a := by omega
        simp only [Mem.read, hk, if_false]
        exact Mem.read_write_from hm.2

/-- A read after a write to the same address gives the byte written. -/
theorem Mem.read_write {m : Mem} (h : m.wf = true) (a : Nat) (b : Byte) : (m.write a b).read a = b :=
  Mem.read_write_from h

/-- A write leaves every other address as it was. -/
theorem Mem.read_write_other {a a' : Nat} (h : a' ≠ a) (b : Byte) : ∀ (m : Mem), (m.write a b).read a' = m.read a'
  | [] => by
    have ha : a ≠ a' := Ne.symm h
    unfold Mem.write
    split
    · rfl
    · simp only [Mem.read, ha, if_false]
  | (k, c) :: r => by
    have ha : a ≠ a' := Ne.symm h
    unfold Mem.write
    split
    · split
      · rfl
      · simp only [Mem.read, ha, if_false]
    · split
      · next heq =>
        have hk : k ≠ a' := by omega
        split <;> simp only [Mem.read, hk, if_false]
      · simp only [Mem.read]
        rw [Mem.read_write_other h b r]

theorem Mem.read_mapBytes_from (f : Byte → Byte) (hf : f 0 = 0) (a : Nat) : ∀ {m : Mem} {lo : Nat},
    Mem.wfFrom lo m = true → (m.mapBytes f).read a = f (m.read a)
  | [], _, _ => by simp only [Mem.mapBytes, Mem.read, hf]
  | (k, b) :: r, lo, hm => by
    simp only [Mem.wfFrom, Bool.and_eq_true, decide_eq_true_eq] at hm
    have ih := Mem.read_mapBytes_from f hf a hm.2
    unfold Mem.mapBytes
    by_cases hk : k = a
    · subst hk
      by_cases hb : f b = 0
      · simp only [hb, if_true, Mem.read]
        exact Mem.read_below (by omega) (Mem.wfFrom_mapBytes f hm.2)
      · simp only [hb, if_false, Mem.read, if_true]
    · split <;> simp only [Mem.read, hk, if_false, ih]

/-- A function that keeps 0, applied to every byte, is read everywhere. -/
theorem Mem.read_mapBytes {m : Mem} (h : m.wf = true) (f : Byte → Byte) (hf : f 0 = 0) (a : Nat) :
    (m.mapBytes f).read a = f (m.read a) :=
  Mem.read_mapBytes_from f hf a h

/-- The memories after a full reset have the canonical form. -/
theorem reset_memories_wf : State.reset.cap.mem.wf = true ∧ State.reset.rend.maps.c1.wf = true ∧
    State.reset.disp.planeA.wf = true ∧ State.reset.disp.planeB.wf = true := by decide

end Sys2Proof.Machine
end

