-- ==== Sys2Proof/WellFormed.lean ====
section
/-! DEFINITION. Which commands are well formed: what the link and the partners can present (R177, R31). A meaning is
given to every command all the same. -/

namespace Sys2Proof

/-- A body is at most 1,024 bytes (R177). -/
def bodyOk (body : List Byte) : Bool := decide (body.length ≤ 1024)

/-- A frame discarded by its length or its check has its sync byte and its length field, and is at most 1,031 bytes
(R177, R178). -/
def frameOk (frame : List Byte) : Bool :=
  (frame.head? == some 0x5A) && decide (5 ≤ frame.length) && decide (frame.length ≤ 1031)

/-- The digitizer reports mean16 from 0 to 4080 (R31). -/
def meanOk (mean16 : Nat) : Bool := decide (mean16 ≤ 4080)

/-- Well-formed commands. -/
def Instr.wf : Instr → Bool
  | .fullReset _ => true
  | .startUpScanEnd _ _ => true
  | .chipSelectRelease _ => true
  | .inboundFrameDiscarded frame => frameOk frame
  | .noRoom _ _ body => bodyOk body
  | .unknownKind _ _ body => bodyOk body
  | .outboundFrameStart => true
  | .identify _ body => bodyOk body
  | .echo _ body => bodyOk body
  | .getStatus _ body => bodyOk body
  | .resetPart _ body => bodyOk body
  | .setClock _ body => bodyOk body
  | .setNoticeMask _ body => bodyOk body
  | .set _ body _ => bodyOk body
  | .setBatch _ body _ => bodyOk body
  | .get _ body => bodyOk body
  | .run _ body => bodyOk body
  | .single _ body => bodyOk body
  | .stop _ body => bodyOk body
  | .forceTrigger _ body => bodyOk body
  | .selfCal _ body => bodyOk body
  | .getCal _ body => bodyOk body
  | .restoreChannel _ body _ => bodyOk body
  | .getHistory _ body => bodyOk body
  | .openReadout _ body => bodyOk body
  | .readChunk _ body => bodyOk body
  | .closeReadout _ body => bodyOk body
  | .readoutIdleTimeout => true
  | .memoryWakeEnd => true
  | .digitizerSample _ => true
  | .extTransition _ => true
  | .preTriggerDepthReached => true
  | .postTriggerFillComplete => true
  | .holdoffExpiry => true
  | .autoTimerExpiry => true
  | .overloadReport _ => true
  | .temperatureSample _ => true
  | .calTurnEnd mean16 _ => meanOk mean16
  | .drawColumn => true
  | .clearPersist _ body => bodyOk body
  | .frameEvent => true
  | .fillRect _ body => bodyOk body
  | .putText _ body => bodyOk body
  | .putPixels _ body => bodyOk body
  | .endBatch _ body => bodyOk body
  | .planeSyncComplete => true
  | .setPalette _ body => bodyOk body
  | .setDisplayPower _ body => bodyOk body
  | .setDisplayTimeouts _ body => bodyOk body
  | .panelScanningBegins => true
  | .backlightOn => true
  | .panelScanningStops => true
  | .panelLogicDisabled => true
  | .dimExpiry => true
  | .blankExpiry => true
  | .matrixScan _ _ => true
  | .repeatTimerDue _ => true
  | .longTimerDue _ => true
  | .encoderLineChange _ _ between => between.all fun r => bodyOk r.2
  | .setKeyBinding _ body => bodyOk body
  | .setEncoderBinding _ body => bodyOk body
  | .setLed _ body => bodyOk body
  | .getPanel _ body => bodyOk body
  | .setAuthority _ body => bodyOk body
  | .answerLocal _ body => bodyOk body
  | .requestTimerExpiry => true
  | .deniedTimerExpiry => true
  | .save _ body => bodyOk body
  | .recall _ body => bodyOk body
  | .erase _ body => bodyOk body
  | .protect _ body => bodyOk body
  | .listSlots _ body => bodyOk body
  | .setAutosave _ body => bodyOk body
  | .saveComplete _ => true
  | .recallComplete _ _ => true
  | .eraseComplete _ => true
  | .protectComplete _ => true
  | .calWriteComplete _ => true
  | .autosaveTimerExpiry => true
  | .chipSelectAssert => true
  | .outboundFrameEnd => true

end Sys2Proof
end

