-- ==== Sys2Proof/Tests/Slice0.lean ====
section
/-! SUPPORT. Tests: the checks of WellFormed, the manual's worked figures, single commands, and for every obligation
with hypotheses a witness that meets them. -/

namespace Sys2Proof.Tests

open Sys2Proof.Machine

/-! ## The part in service, and shapes of it -/

/-- The part after start-up, its panel ON, with no request pending. -/
def up : State :=
  { State.reset with
    link := { Link.reset with started := true }
    cap := { Cap.reset with readout := .closed }
    disp := { Disp.reset with power := .on, logic := true, scanning := true, idle := some 0 }
    panel := { Panel.reset with scanning := true }
    store := { Store.reset with scanning := false } }

/-- ACQ in a state, with segment 0 in flight where it fills. -/
def acqIn (st : AcqState) : State :=
  { up with
    acq := { up.acq with state := st, inFlight := if st.isFilling then some 0 else none, q := 8192, e := 1 }
    cap := if st.isFilling then up.cap.putSeg 0 (.filling ⟨true, false, false, false⟩ ⟨false, false, false, false⟩)
      else up.cap }

/-- A filed segment. -/
def filed : Filed :=
  { seq := 1, trigTime := 0, wall := none, q := 8192, forced := false, gen := 0, present := ⟨true, false, false, false⟩
    invalid := ⟨false, false, false, false⟩, draw := false, read := true, oldest := 0 }

/-- Segment 0 COMPLETE, and a readout state. -/
def reading (r : Readout) : State :=
  { up with cap := { up.cap with segs := .complete filed :: up.cap.segs.tail, history := [0], readout := r,
                                 idle := some ⟨2000000, 0⟩ } }

/-- A display power state. -/
def lit (p : Power) : State := { up with disp := { up.disp with power := p } }

/-- A pass about to draw a column, in a drawing style. -/
def pass (style : Int) (next : Nat) : Pass :=
  { seq := 1, seg := 0, next := next, d := Quad.fill 0, p := Quad.fill 0, s := 0, w := 16384, style := style, h := 16
    drawn := ⟨true, false, false, false⟩, span := Quad.fill (some (199, 199)), above := Quad.fill false
    below := Quad.fill false }

def drawing (style : Int) (next : Nat) : State :=
  { reading .closed with rend := { up.rend with pass := some (pass style next) } }

/-- Key 5 of a panel, and what it is bound to. -/
def keyed (x : Key) (b : KeyBinding) : State :=
  { up with panel := { up.panel with keys := up.panel.keys.setIfInBounds 5 x, keyBind := up.panel.keyBind.setIfInBounds 5 b } }

/-- Encoder 2 of a panel. -/
def turned (x : Encoder) : State := { up with panel := { up.panel with encs := up.panel.encs.setIfInBounds 2 x } }

/-- A directory entry for slot 3, and a store queue. -/
def stored (e : Entry) (q : List Op) (r : Option Running) : State :=
  { up with store := { up.store with dir := up.store.dir.setIfInBounds 3 e, queue := q, running := r } }

def validEntry : Entry := ⟨.valid, [], some .link, none, 1, false, none⟩
def running : Running := ⟨false, Quad.fill ⟨false, 0, 0, 0, 50, 0⟩, false⟩
def linkOp (k : OpKind) : Op := ⟨k, .link, 3, 9, [], some ⟨1, Settings.defaults⟩, true⟩

/-- A request is accepted by the part in service. -/
theorem accepts_up {s : State} (h : s.link = up.link) (k : ReqKind) (tag : Byte) (body : List Byte)
    (hb : k.badLength body = false) : s.accepts k tag body := by
  unfold State.accepts Link.check Link.used
  rw [h]
  simp [up, Link.reset, hb]

/-! ## WellFormed refuses -/

theorem test_wf_body : (Instr.echo 0 (List.replicate 1025 0)).wf = false := by decide +kernel
theorem test_wf_frame_sync : (Instr.inboundFrameDiscarded [0, 1, 0, 1, 4]).wf = false := by decide
theorem test_wf_frame_short : (Instr.inboundFrameDiscarded [0x5A, 1, 0, 1]).wf = false := by decide
theorem test_wf_between : (Instr.encoderLineChange 0 (true, false) (some (0, List.replicate 1025 0))).wf = false := by
  decide +kernel
theorem test_wf_mean : (Instr.calTurnEnd 4081 0).wf = false := by decide

/-! ## The manual's figures -/

/-- The check of the ASCII digits 1 to 9 is 0x29B1 (R177). -/
theorem test_crc : crc16 [0x31, 0x32, 0x33, 0x34, 0x35, 0x36, 0x37, 0x38, 0x39] = 0x29B1 := by decide +kernel

/-- Table 3-1. -/
theorem test_comparator_codes :
    let v (k o l : Int) : Settings := { Settings.defaults with
      trigLevel := l, chan := Quad.fill ⟨1, k, o, 0, 0⟩ }
    rawCode (v 7 (-100000) 333000) .ch2 (-3) = 168 ∧ rawCode (v 6 0 5000000) .ch1 0 = 1728
      ∧ rawCode (v 6 0 (-390000)) .ch1 4 = -1 := by decide

/-- R42's figures. -/
theorem test_ladder : rawLadder { Settings.defaults with trigLevel := 1250000 } = 159
    ∧ rawLadder { Settings.defaults with trigLevel := -6000000 } = -26 := by decide

/-- Table 3-6. -/
theorem test_auto_ms :
    let v (e i : Int) : Settings := { Settings.defaults with acqLength := e, acqInterval := i }
    autoMs (v 14 9) = 100 ∧ autoMs (v 20 9) = 2098 ∧ autoMs (v 24 11) = 60000 ∧ autoMs (v 10 0) = 100 := by decide

/-- Table 6-2's third row, and Table 6-3. -/
theorem test_columns : ((pass 0 0).columnCount 0, (pass 0 0).columnCount 1, (pass 0 0).columnStart 639)
    = (25, 26, 16358) := by decide
theorem test_rows : (gridRow 255 0 0, gridRow 127 0 0, gridRow 0 0 0, gridRow 128 0 200, gridRow 255 63 400,
    gridRow 0 (-64) (-400)) = (1, 201, 399, -1, -497, 899) := by decide

/-- R47's last figures. -/
theorem test_width_samples : widthSamples 10000000000 1 = 10000000000 ∧ widthSamples 100 1000000000 = 1 := by decide

/-- R3: a TRIG_SOURCE of 9 becomes 5 and a DRAW_STYLE of -1 becomes 0. -/
theorem test_clamp : Settings.defaults.effective .trigSource 9 = 5 ∧ Settings.defaults.effective .drawStyle (-1) = 0 := by
  decide

/-- The 46 ids of Tables 1-1 and 1-2. -/
theorem test_ids : Setting.all.map Setting.id
    = [1, 2, 3, 4, 16, 17, 18, 19, 20, 21, 22, 23, 24, 25, 26, 27, 28, 29, 30, 31, 32, 33, 34, 35]
      ++ [48, 49, 50, 51, 52, 53, 54, 55, 56, 57, 58, 64, 65, 66, 67, 68, 69, 70, 71, 72, 73, 74] := by decide

/-- Table 5-1. -/
theorem test_capacity :
    let v (l : Int) (e4 : Int) (k : Int) : Settings := { Settings.defaults with
      acqLength := l, acqSegments := k, chan := ⟨⟨1, 6, 0, 0, 0⟩, ⟨e4, 6, 0, 0, 0⟩, ⟨e4, 6, 0, 0, 0⟩, ⟨e4, 6, 0, 0, 0⟩⟩ }
    ((v 14 0 16).kEff, (v 10 0 1024).kEff, (v 20 1 100).kEff, (v 24 1 1).kEff) = (16, 1024, 64, 1) := by decide

/-- Table 2-2. -/
theorem test_drift :
    let r : CalRecord := ⟨true, -3, 250, 8, 50, 1⟩
    let u : ChanUnit := ⟨false, ⟨6, 0, 0, 0, false, false⟩, r, .fresh, 0, -3, true⟩
    let run (ts : List Int) := ts.foldl (fun (u : ChanUnit) T => { u.step (r.target T) with cal := u.freshness T }) u
    ((run [250]).d, (run [250, 275]).d, (run [250, 275, 310]).d, (run [250, 275, 310]).cal) = (-3, -2, -1, .stale)
      ∧ ((run [250, 275, 310, 305]).d, (run [250, 275, 310, 305]).cal) = (0, .stale)
      ∧ ((run [250, 275, 310, 305, 289]).t, (run [250, 275, 310, 305, 289]).d, (run [250, 275, 310, 305, 289]).cal)
        = (0, 0, .fresh) := by decide

/-- R147's example, R145's multipliers, and R110's shades of the counts 1 and 255. -/
theorem test_knobs : EncTarget.trigLevel.stepOf { Settings.defaults with
      trigSource := 2, chan := Quad.fill ⟨1, 7, 0, 0, 0⟩ } = some (.trigLevel, 4000)
    ∧ [3, 4, 9, 10].map multiplier = [1, 4, 4, 16] ∧ (shade 1, shade 255) = (64, 255) := by decide

/-! ## Decoding: the table gives no row any bits -/

theorem test_decode_none (nbits w : Nat) : decodeTableWord nbits w = none := rfl
theorem test_fetch_word (s : State) (nbits w : Nat) : s.withFetchWord nbits w = s := rfl


/-! ## Witnesses: states and operands that meet every obligation's hypotheses, clause by clause

`accepts_up` gives the acceptance of a request by any state whose link is that of `up`. -/

/-- A link that is not in its plain state. -/
def linked (l : Link) : State := { up with link := l }

theorem witness_StepTakesFront : (up.setPending [.frameEvent]).pending = [.frameEvent] := rfl
theorem witness_IdleIsOneMicrosecond : up.pending = [] ∧ State.reset.link.todSet = false
    ∧ (linked { up.link with todSet := true, todUs := 999999 }).link.todSet = true := ⟨rfl, rfl, rfl⟩
theorem witness_OnlyMemoryCommandsCanFault : (∀ codes, Instr.frameEvent ≠ .digitizerSample codes)
    ∧ (∀ tag body, Instr.frameEvent ≠ .readChunk tag body) ∧ Instr.frameEvent ≠ .memoryWakeEnd
    ∧ Instr.frameEvent ≠ .drawColumn := by simp
theorem witness_IdentifyAndEcho : up.accepts .identify 0 [] ∧ up.accepts .echo 255 [1]
    ∧ up.link.rx = .awaitingSync ∧ up.link.used < 16 ∧ 1023 < (List.replicate 1024 (0 : Byte)).length
    ∧ State.reset.link.table.any (fun p => p.tag = 9) = false ∧ State.reset.link.table.length < 8 :=
  ⟨accepts_up rfl _ _ _ rfl, accepts_up rfl _ _ _ rfl, rfl, by decide, by decide +kernel, rfl, by decide⟩
theorem witness_StatusReply : up.accepts .getStatus 9 [] ∧ up.link.table.length < 8 :=
  ⟨accepts_up rfl _ _ _ rfl, by decide⟩
theorem witness_ReadingRequests : up.accepts .getStatus 9 [] ∧ up.accepts .getCal 9 [] ∧ up.accepts .getPanel 9 []
    ∧ up.accepts .listSlots 9 [] ∧ up.accepts .getHistory 9 [0, 0, 0, 0, 0, 0]
    ∧ up.panel.lamps.toList[31]? = some ⟨.link, .off⟩ := by
  refine ⟨?_, ?_, ?_, ?_, ?_, by decide +kernel⟩ <;> exact accepts_up rfl _ _ _ rfl
theorem witness_RequestChecksAndClock_clock : up.accepts .setClock 9 [255, 255, 255, 255] ∧ up.accepts .setNoticeMask 9 [0, 16]
    ∧ up.accepts .setNoticeMask 9 [255, 15] ∧ 16 ≤ (16 : Byte).toNat ∧ (15 : Byte).toNat < 16 :=
  ⟨accepts_up rfl _ _ _ rfl, accepts_up rfl _ _ _ rfl, accepts_up rfl _ _ _ rfl, by decide, by decide⟩
theorem witness_RequestChecksAndClock_unknown : up.link.rx = .awaitingSync ∧ up.link.used < 16
    ∧ ∀ k : ReqKind, k.code ≠ 0x36 := ⟨rfl, by decide, by intro k; cases k <;> decide⟩
theorem witness_RequestChecksAndClock : ReqKind.identify.badLength [0] = true
    ∧ (linked { up.link with table := [⟨9, .echo⟩] }).link.table.any (fun p => p.tag = 9) = true
    ∧ State.reset.link.started = false ∧ ReqKind.run.badLength [] = false
    ∧ (linked { up.link with table := List.replicate 8 ⟨1, .save⟩ }).link.table.any (fun p => p.tag = 9) = false
    ∧ (linked { up.link with table := List.replicate 8 ⟨1, .save⟩ }).link.used < 16 := by decide
theorem witness_NoRoomIsALinkError : (linked { up.link with replies := List.replicate 16 ⟨0, 0, []⟩ }).link.used = 16
    ∧ ¬ (ReqKind.resetPart = .resetPart ∧ up.link.started = true ∧ ([0] : List Byte) = []) := by decide
theorem witness_DiscardedFrames : up.link.rx = .awaitingSync ∧ 1024 < (1 : Byte).toNat + 256 * (4 : Byte).toNat
    ∧ leBytes 2 (crc16 [1, 0, 0, 0]).toNat ≠ [0, 0] ∧ ([] : List Byte).length = (0 : Byte).toNat + 256 * (0 : Byte).toNat
    ∧ (0 : Byte).toNat + 256 * (4 : Byte).toNat ≤ 1024
    ∧ ([0] : List Byte).length < 2 + ((0 : Byte).toNat + 256 * (0 : Byte).toNat) ∧ (0x5A : Byte) ∉ [0, 1]
    ∧ (linked { up.link with rx := .ignoring }).link.rx = .ignoring := by
  decide +kernel
theorem witness_OutboundFramesAndNotices : up.link.outBuf = none ∧ up.link.replies = [] ∧ up.link.notices = []
    ∧ (linked { up.link with replies := [⟨0x81, 9, [0]⟩] }).link.replies = [⟨0x81, 9, [0]⟩]
    ∧ (linked { up.link with notices := [.overflow 1], lost := 1 }).link.notices = [.overflow 1] := ⟨rfl, rfl, rfl, rfl, rfl⟩
/-- OutboundFramesAndNotices: a frame begun and one to begin, a body of the greatest length, a mask flag set and clear, the
shared places short and full, and a standing notice for the subject of a new one. -/
theorem witness_OutboundFramesAndNotices_notices :
    (∀ n ∈ [0, 1, 2], (linked { up.link with outBuf := some ⟨[0x5A, 1, 2], n⟩ }).link.outBuf = some ⟨[0x5A, 1, 2], n⟩
        ∧ n < [0x5A, 1, 2].length)
    ∧ (List.replicate 1024 (0 : Byte)).length ≤ 1024
    ∧ up.link.mask.getLsbD 4 = true ∧ ({ up.link with mask := 1 } : Link).mask.getLsbD 4 = false
    ∧ (let shared : Notice := .localReq .denied AuthSet.full .denied false
      let encoders : List Notice := [.encoder 2 5 false .report]
      ({ up.link with notices := List.replicate 9 shared ++ encoders } : Link).sharedUsed < 10
        ∧ 10 ≤ ({ up.link with notices := List.replicate 10 shared ++ encoders } : Link).sharedUsed
        ∧ (List.replicate 10 shared ++ encoders) = List.replicate 10 shared ++ .encoder 2 5 false .report :: []
        ∧ (Notice.encoder 2 5 false .report).sameSubject (.encoder 2 (-5) true .viewSpan) = true
        ∧ (Notice.encoder 2 5 false .report).sameSubject (.encoder 3 5 false .report) = false) := by decide +kernel
theorem witness_invariants : up.link.placesOk = true ∧ up.link.noticesOk = true ∧ up.sett.vals.inRange = true
    ∧ up.memoriesOk = true ∧ up.chans.driftOk = true ∧ up.owedOk = true ∧ up.startUpOk = true
    ∧ State.reset.startUpOk = true := by decide
theorem witness_startUp_step : ∃ t, step (State.reset.setPending [.startUpScanEnd 0 0]) = .next t := ⟨_, rfl⟩
theorem witness_invariants_step : ∃ t, step up = .next t := ⟨_, rfl⟩
theorem witness_ResetValues : up.store.running = none ∧ up.link.rx = .awaitingSync ∧ up.link.started = true
    ∧ up.disp.power = .on ∧ (∀ k : OpKind, (stored validEntry [linkOp k] (some running)).store.queue = linkOp k :: []
      ∧ (stored validEntry [linkOp k] (some running)).store.running = some running ∧ (linkOp k).kind = k
      ∧ (linkOp k).slot < 32 ∧ (linkOp k).image = some ⟨1, Settings.defaults⟩) :=
  ⟨rfl, rfl, rfl, rfl, fun _ => ⟨rfl, rfl, rfl, by simp [linkOp], rfl⟩⟩
theorem witness_StartUpEnds : State.reset.store.scanning = true ∧ State.reset.chans.selfCal = none
    ∧ State.reset.link.mask.getLsbD 0 = true ∧ State.reset.link.mask.getLsbD 6 = true ∧ State.reset.link.sharedUsed ≤ 5
    ∧ State.reset.store.device.scanImage 0 = none ∧ State.reset.store.device.scanCal 0 = none
    ∧ up.store.scanning = false := by decide
theorem witness_StartUpEnds_device :
    let image : Image := ⟨1, Settings.defaults⟩
    let records : Quad CalRecord := ⟨⟨true, 99, 250, 0, 50, 1⟩, CalRecord.initial, CalRecord.initial, CalRecord.initial⟩
    let d : Device := { Device.blank.putSector 0 (.written ⟨[], .auto, none, 1, false⟩ image) with cal := .written 1 records }
    d.scanImage 2 = some image ∧ d.scanCal 2 = some records ∧ (records.get .ch1).valid = true
      ∧ (records.get .ch2).valid = false := by decide +kernel
/-- The body of a SET. -/
def setBody (k : Setting) (v : Int) : List Byte := BitVec.ofNat 8 k.id :: leInt 8 v

theorem witness_UnchangedWriteHasNoEffect : up.accepts .set 9 (setBody .acqMode (-5))
    ∧ clampInt (ofLeSigned (leInt 8 (-5))) (up.sett.vals.range .acqMode).1 (up.sett.vals.range .acqMode).2
      = up.sett.vals.get .acqMode := ⟨accepts_up rfl _ _ _ (by decide), by decide⟩
theorem witness_SetStoresAndAnswers : up.owedOk = true ∧ up.accepts .set 9 (setBody .trigHyst 17)
    ∧ up.accepts .set 9 (5 :: leInt 8 0) ∧ (∀ k : Setting, k.id ≠ (5 : Byte).toNat) ∧ ([] : List Byte).length ≠ 9 := by
  refine ⟨by decide, accepts_up rfl _ _ _ (by decide), accepts_up rfl _ _ _ (by decide), ?_, by decide⟩
  intro k
  cases k <;> first | decide | (rename_i ch; cases ch <;> decide)
theorem witness_RestartClass : (∀ k v, up.accepts .set 9 (setBody k v))
    ∧ (∀ p ∈ [(Setting.acqMode, (1 : Int)), (.term .ch4, 1), (.trigPosition, 0), (.trigSource, 5), (.graticule, 2),
        (.acqInterval, 0), (.scale .ch1, 0), (.offset .ch1, 5), (.offset .ch2, 5)],
      clampInt (ofLeSigned (leInt 8 p.2)) (up.sett.vals.range p.1).1 (up.sett.vals.range p.1).2 ≠ up.sett.vals.get p.1)
    ∧ (Setting.term .ch4).id = 35 ∧ Setting.trigPosition.id = 58 ∧ Setting.trigSource.id = 48 :=
  ⟨fun _ _ => accepts_up rfl _ _ _ (by simp [setBody, leInt, leBytes, ReqKind.badLength]), by decide, by decide⟩
theorem witness_TriggerLevel : (∀ k v, up.accepts .set 9 (setBody k v))
    ∧ (∀ p ∈ [(Setting.trigLevel, (1 : Int)), (.trigHyst, 16), (.trigHoldoff, 5), (.trigMode, 1)],
      clampInt (ofLeSigned (leInt 8 p.2)) (up.sett.vals.range p.1).1 (up.sett.vals.range p.1).2 ≠ up.sett.vals.get p.1)
    ∧ [Setting.trigLevel, .trigHyst, .trigHoldoff, .trigMode].map Setting.id = [51, 52, 56, 57]
    ∧ up.sett.vals.source = some .ch1 ∧ { up.sett.vals with trigSource := 5 }.source = none
    ∧ up.codesOk = true ∧ up.codesStand = true ∧ up.sett.vals.inRange = true ∧ up.link.started = true
    ∧ State.reset.codesOk = true :=
  ⟨fun _ _ => accepts_up rfl _ _ _ (by simp [setBody, leInt, leBytes, ReqKind.badLength]), by decide⟩
theorem witness_PlainClass : up.accepts .set 9 (setBody .intensity 65)
    ∧ clampInt (ofLeSigned (leInt 8 65)) (up.sett.vals.range .intensity).1 (up.sett.vals.range .intensity).2
      ≠ up.sett.vals.get .intensity := ⟨accepts_up rfl _ _ _ (by decide), by decide⟩
/-- RearmAndRedraw and DerivedAndTermination: changes of their settings in the part in service. -/
theorem witness_changes : (∀ k v, up.accepts .set 9 (setBody k v))
    ∧ (∀ p ∈ [(Setting.trigSource, (5 : Int)), (.trigSource, 2), (.trigSlope, 2), (.trigWidthHi, 5000), (.position .ch1, -9),
        (.position .ch4, 400), (.persistMode, 2), (.scale .ch1, 0), (.acqLength, 10), (.viewSpan, 700), (.term .ch4, 1)],
      clampInt (ofLeSigned (leInt 8 p.2)) (up.sett.vals.range p.1).1 (up.sett.vals.range p.1).2 ≠ up.sett.vals.get p.1)
    ∧ up.cap.waiting = false ∧ (lit .blank).disp.power ≠ .on ∧ (lit .blank).disp.power ≠ .dim :=
  ⟨fun _ _ => accepts_up rfl _ _ _ (by simp [setBody, leInt, leBytes, ReqKind.badLength]), by decide, by decide, by decide,
    by decide⟩
/-- Two filed segments, the first of them being drawn. -/
theorem witness_RearmAndRedraw : ∀ p ∈ [Power.on, .blank],
    let s : State := { drawing 0 3 with
      disp := { up.disp with power := p }
      cap := { up.cap with segs := .complete filed :: .complete filed :: up.cap.segs.drop 2, history := [0, 1] } }
    s.rend.pass = some (pass 0 3) ∧ s.cap.seg (pass 0 3).seg = .complete filed ∧ s.disp.power = p
      ∧ s.cap.history.getLast? = some 1 ∧ s.cap.seg 1 = .complete filed ∧ 1 < s.cap.segs.length ∧ (pass 0 3).seg ≠ 1
      ∧ s.cap.waiting = false ∧ s.link = up.link := by decide +kernel
theorem witness_SetBatchIsOneTransaction :
    let body : List Byte := setBody .acqMode 1 ++ setBody .trigHyst 99
    let ws : List (Setting × Int) := [(.acqMode, 1), (.trigHyst, 99)]
    up.owedOk = true ∧ up.accepts .setBatch 9 (2 :: body) ∧ firstUnknown ((pairsOf 2 body).map Prod.fst) = none
    ∧ pairWrites (pairsOf 2 body) = ws ∧ ws = [(.acqMode, 1)] ++ (.trigHyst, 99) :: [] ∧ up.sett.vals.clampsIn ws = true
    ∧ up.sett.vals.restartsIn ws = true
    ∧ up.accepts .setBatch 9 (1 :: 0 :: leInt 8 0) ∧ firstUnknown ((pairsOf 1 (0 :: leInt 8 0)).map Prod.fst) = some 0 :=
  ⟨by decide, accepts_up rfl _ _ _ (by decide), by decide, by decide, rfl, by decide, by decide,
    accepts_up rfl _ _ _ (by decide), by decide⟩
theorem witness_GetReads : up.accepts .get 9 [1, 74] ∧ firstUnknown (([1, 74] : List Byte).map BitVec.toNat) = none
    ∧ up.accepts .get 9 [1, 75] ∧ firstUnknown (([1, 75] : List Byte).map BitVec.toNat) = some 1 ∧ up.accepts .get 9 []
    ∧ 46 < (List.replicate 47 (1 : Byte)).length :=
  ⟨accepts_up rfl _ _ _ rfl, by decide, accepts_up rfl _ _ _ rfl, by decide, accepts_up rfl _ _ _ rfl, by decide⟩

/-! ### Channels -/

/-- CH1 with its latch, termination and enable, its front end programmed so. -/
def front (latch : Bool) (term enable : Int) (selfCal : Option SelfCal) : State :=
  { up with
    sett := { up.sett with vals := { up.sett.vals with chan := up.sett.vals.chan.put .ch1 ⟨enable, 6, 0, 0, term⟩ } }
    chans := { up.chans with
      unit := up.chans.unit.put .ch1
        { up.chans.unit.get .ch1 with latch := latch, front := ⟨6, 0, 0, term, latch, false⟩ }
      selfCal := selfCal } }

def selfCal (todo : List Channel) : SelfCal := ⟨9, ⟨true, false, false, true⟩, .ch1, 6, false, todo, []⟩

theorem witness_RestoreChannel : (∀ b, (front true 0 1 none).accepts .restoreChannel 9 [b])
    ∧ (0 : Byte).toNat = 0 ∧ 4 < (5 : Byte).toNat ∧ Channel.ch1.num = (1 : Byte).toNat ∧ Channel.ch4.num = (4 : Byte).toNat
    ∧ ((front true 0 1 none).chans.unit.get .ch1).latch = true ∧ (up.chans.unit.get .ch1).latch = false
    ∧ ((front true 0 1 none).chans.unit.get .ch1).front.term ≠ 1 ∧ ((front true 1 1 none).chans.unit.get .ch1).front.term = 1
    ∧ ((front true 1 1 none).chans.unit.get .ch1).latch = true
    ∧ (1 : BitVec 4).getLsbD (Channel.ch1.num - 1) = true ∧ (14 : BitVec 4).getLsbD (Channel.ch1.num - 1) = false :=
  ⟨fun _ => accepts_up rfl _ _ _ rfl, by decide⟩
theorem witness_OverloadReport :
    (up.sett.vals.chan.get .ch1).term ≠ 1 ∧ ((front true 1 1 none).chans.unit.get .ch1).latch = true
    ∧ ((front false 1 1 none).sett.vals.chan.get .ch1).term = 1 ∧ ((front false 1 1 none).chans.unit.get .ch1).latch = false
    ∧ ((front false 1 0 none).sett.vals.chan.get .ch1).enable = 0 ∧ (front false 1 1 none).acq.inFlight = none
    ∧ (front false 1 1 (some (selfCal []))).chans.selfCal = some (selfCal []) ∧ (selfCal []).turn = .ch1
    ∧ (acqIn .fillingPre).acq.inFlight = some 0
    ∧ (acqIn .fillingPre).cap.seg 0 = .filling ⟨true, false, false, false⟩ ⟨false, false, false, false⟩ := by decide
theorem witness_TemperatureSample : State.reset.link.started = false ∧ up.link.started = true
    ∧ up.link.mask.getLsbD 6 = true ∧ up.link.sharedUsed ≤ 6 ∧ up.sett.vals.source = some .ch1 := by decide
theorem witness_SelfCalBegins : (∀ st v, (acqIn st).accepts .selfCal 9 [v]) ∧ 15 < (16 : Byte).toNat
    ∧ (acqIn .calibrating).acq.state = .calibrating ∧ (acqIn .ready).acq.state = .ready
    ∧ (front true 0 1 none).acq.state = .stopped ∧ (15 : Byte).toNat.testBit (Channel.ch1.num - 1) = true
    ∧ ((front true 0 1 none).chans.unit.get .ch1).latch = true
    ∧ (∀ x : Channel, (15 : Byte).toNat.testBit (x.num - 1) = true →
        (up.chans.unit.get x).latch = false ∧ Channel.ch1.num ≤ x.num) := by
  refine ⟨fun _ _ => accepts_up rfl _ _ _ rfl, by decide, by decide, by decide, by decide, by decide, by decide, ?_⟩
  intro x
  cases x <;> decide
/-- DerivedAndTermination: CH1 latched or clear at each termination, and its own calibration turn. -/
theorem witness_DerivedAndTermination : (∀ l t v, (front l t 1 none).accepts .set 9 (setBody (.term .ch1) v))
    ∧ (∀ t ∈ [(0 : Int), 1], clampInt (ofLeSigned (leInt 8 (1 - t))) 0 1 ≠ ((front true t 1 none).sett.vals.chan.get .ch1).term)
    ∧ ((front true 1 1 none).chans.unit.get .ch1).latch = true ∧ ((front false 0 1 none).chans.unit.get .ch1).latch = false
    ∧ (1 : BitVec 4).getLsbD (Channel.ch1.num - 1) = true ∧ (front true 1 1 none).chans.selfCal = none
    ∧ (front false 0 1 (some (selfCal []))).chans.selfCal = some (selfCal []) ∧ (selfCal []).turn = .ch1
    ∧ (selfCal []).turn ≠ .ch4 ∧ up.link.mask.getLsbD 6 = true ∧ up.link.mask.getLsbD 3 = true ∧ up.link.sharedUsed < 10 :=
  ⟨fun _ _ _ => accepts_up rfl _ _ _ (by simp [setBody, leInt, leBytes, ReqKind.badLength]), by decide⟩
theorem witness_CalTurnEnd : up.chans.selfCal = none
    ∧ (∀ todo ∈ [[], [Channel.ch4]], (selfCal todo).turn ∉ (selfCal todo).todo
        ∧ (front false 0 1 (some (selfCal todo))).chans.selfCal = some (selfCal todo)
        ∧ (front false 1 1 (some { selfCal todo with to50 := true })).chans.selfCal = some { selfCal todo with to50 := true })
    ∧ ((front false 0 1 none).chans.unit.get .ch4).latch = false ∧ (selfCal [.ch4]).todo = [] ++ Channel.ch4 :: []
    ∧ (∀ x ∈ [Channel.ch4], ((up.setUnit .ch4 { up.chans.unit.get .ch4 with latch := true }).chans.unit.get x).latch = true)
    ∧ roundAway (2048 - (1040 : Nat)) 16 = 63 ∧ roundAway (2048 - (3072 : Nat)) 16 = -64
    ∧ up.store.queue = [] ∧ up.store.running = none
    ∧ ([⟨9, .selfCal⟩] : List PendingReq).find? (fun p => p.tag = (9 : Byte)) = some ⟨9, .selfCal⟩
    ∧ (up.chans.unit.get .ch1).cal ≠ .fresh ∧ up.link.mask.getLsbD 5 = true ∧ up.link.mask.getLsbD 6 = true
    ∧ up.link.sharedUsed < 8 := by decide
/-! ### Trigger and acquisition -/

/-- Every request without a body is accepted in every acquisition state. -/
theorem witness_acqIn (st : AcqState) (k : ReqKind) (h : k.badLength [] = false) : (acqIn st).accepts k 9 []
    ∧ (acqIn st).acq.state = st := ⟨accepts_up rfl _ _ _ h, rfl⟩
theorem witness_ForceTrigger (st : AcqState) : (acqIn st).accepts .forceTrigger 9 [] ∧ (acqIn st).acq.state = st :=
  witness_acqIn st _ rfl
theorem witness_StopInEachState (st : AcqState) : (acqIn st).accepts .stop 9 [] ∧ (acqIn st).acq.state = st :=
  witness_acqIn st _ rfl
theorem witness_ReadyTimersAndEdges :
    (∀ st, (acqIn st).acq.state = st ∧ (acqIn st).acq.depth = false ∧ (acqIn st).trig.holdoff = none
      ∧ (acqIn st).trig.auto = none ∧ (acqIn st).trig.force = false ∧ (acqIn st).sett.vals.trigMode = 0)
    ∧ (acqIn .fillingPre).cap.pre < (acqIn .fillingPre).acq.q
    ∧ (acqIn .fillingPre).acq.q ≤ ({ (acqIn .fillingPre).cap with pre := 8192 } : Cap).pre
    ∧ ({ up.acq with depth := true } : Acq).depth = true
    ∧ ({ up.trig with holdoff := some ⟨1, 0⟩, auto := some ⟨100000, 0⟩, force := true } : Trig).holdoff ≠ none :=
  ⟨fun _ => ⟨rfl, rfl, rfl, rfl, rfl, rfl⟩, by decide, by decide, rfl, by decide⟩
/-- EXT is the source, in a trigger type, slope and width condition. -/
def external (st : AcqState) (type slope cond : Int) (w : Option Pulse) : State :=
  { acqIn st with
    sett := { up.sett with vals := { up.sett.vals with
      trigSource := 5, trigType := type, trigSlope := slope, trigWidthCond := cond } }
    trig := { up.trig with width := w } }

theorem witness_ReadyTimersAndEdges_external : up.acq.state.isFilling = false
    ∧ (∀ st ∈ [AcqState.fillingPre, .ready, .fillingPost], ∀ slope ∈ [(0 : Int), 1, 2], ∀ cond ∈ [(0 : Int), 1, 2],
        (external st 1 slope cond (some ⟨true, 3⟩)).acq.state.isFilling = true
        ∧ (external st 0 slope cond none).sett.vals.source = none)
    ∧ (external .ready 1 0 0 (some ⟨false, 3⟩)).trig.loS < 3 ∧ ¬ (1 : Int) < (external .ready 1 0 0 none).trig.loS := by
  decide
/-- CH1 is the source under WIDTH, both detectors armed: 200 rises, 0 falls, and unarmed neither does. -/
theorem witness_ReadyTimersAndEdges_width : ∀ st ∈ [AcqState.fillingPre, .ready, .fillingPost],
    ∀ w ∈ [none, some (⟨true, 3⟩ : Pulse), some ⟨false, 3⟩],
    let s : State := { acqIn st with
      sett := { up.sett with vals := { up.sett.vals with trigType := 1 } }
      trig := { up.trig with rising := true, falling := true, width := w } }
    s.acq.state.isFilling = true ∧ s.acq.inFlight = some 0
      ∧ s.cap.seg 0 = .filling ⟨true, false, false, false⟩ ⟨false, false, false, false⟩
      ∧ s.cap.fits 0 ⟨true, false, false, false⟩ s.acq.q = true ∧ s.acq.q + 1 < s.cap.len ∧ s.sett.vals.source = some .ch1
      ∧ s.chanState .ch1 = .on ∧ s.sett.vals.trigType ≠ 0 ∧ s.trig.lc ≤ 200 ∧ ¬ (200 : Int) ≤ s.trig.lc ∧ (0 : Int) ≤ s.trig.lc
      ∧ ¬ s.trig.lc ≤ 0 ∧ s.trig.loS < 4 ∧ s.trig.rising = true ∧ up.trig.rising = false := by decide
theorem witness_RunAndSingle : (∀ st, (acqIn st).accepts .run 9 [] ∧ (acqIn st).accepts .single 9 [])
    ∧ 0 < up.sett.vals.e ∧ up.acq.state = .stopped ∧ up.cap.power = .active ∧ (up.cap.seg 0).isFree = true
    ∧ 0 < up.cap.segs.length ∧ (front false 0 0 none).sett.vals.e = 0 ∧ (acqIn .arming).acq.kind ≠ .single
    ∧ ({ up.cap with power := .retention } : Cap).power = .retention :=
  ⟨fun st => ⟨(witness_acqIn st _ rfl).1, (witness_acqIn st _ rfl).1⟩, by decide⟩
theorem witness_SampleWritten : ∀ st ∈ [AcqState.fillingPre, .fillingPost], (acqIn st).acq.state = st
    ∧ (acqIn st).acq.inFlight = some 0
    ∧ (acqIn st).cap.seg 0 = .filling ⟨true, false, false, false⟩ ⟨false, false, false, false⟩
    ∧ (acqIn st).cap.fits 0 ⟨true, false, false, false⟩ (acqIn st).acq.q = true ∧ (acqIn st).cap.mem.wf = true
    ∧ (acqIn st).cap.fits 0 ⟨true, false, false, false⟩ 16383 = true ∧ (acqIn st).cap.len = 16383 + 1
    ∧ (acqIn st).sett.vals.source = some .ch1 ∧ (acqIn st).chanState .ch1 = .on := by decide
/-- SampleWritten: source EXT, and a source that is OFF. -/
theorem witness_SampleWritten_others : ∀ st ∈ [AcqState.fillingPre, .fillingPost],
    let s := external st 1 0 0 (some ⟨true, 2 ^ 32 - 1⟩)
    let off : State := { s with sett := { s.sett with vals := { s.sett.vals with trigSource := 2 } } }
    s.sett.vals.source = none ∧ off.sett.vals.source = some .ch2 ∧ off.chanState .ch2 ≠ .on ∧ s.acq.state = st
      ∧ s.acq.inFlight = some 0 ∧ s.cap.seg 0 = .filling ⟨true, false, false, false⟩ ⟨false, false, false, false⟩
      ∧ s.cap.fits 0 ⟨true, false, false, false⟩ s.acq.q = true ∧ s.cap.mem.wf = true := by decide
theorem witness_ComparatorTrigger : (acqIn .ready).acq.state = .ready ∧ (acqIn .ready).acq.inFlight = some 0
    ∧ (acqIn .ready).cap.seg 0 = .filling ⟨true, false, false, false⟩ ⟨false, false, false, false⟩
    ∧ (acqIn .ready).cap.fits 0 ⟨true, false, false, false⟩ 8192 = true ∧ (acqIn .ready).cap.awaiting = false
    ∧ (acqIn .ready).sett.vals.source = some .ch1 ∧ (acqIn .ready).chanState .ch1 = .on
    ∧ (acqIn .ready).sett.vals.trigType = 0 ∧ (acqIn .ready).acq.q ≠ 0 := by decide
/-- ComparatorTrigger: under WIDTH a pulse that a fall ends and one that no edge ends; with source EXT; with the source OFF. -/
theorem witness_ComparatorTrigger_others : ∀ cond ∈ [(0 : Int), 1, 2], ∀ source ∈ [(1 : Int), 2, 5],
    let s : State := { acqIn .ready with
      sett := { up.sett with vals := { up.sett.vals with
        trigSource := source, trigType := 1, trigWidthCond := cond } }
      trig := { up.trig with rising := true, falling := true, width := some ⟨true, 3⟩ } }
    s.acq.state = .ready ∧ s.acq.inFlight = some 0 ∧ s.cap.awaiting = false ∧ s.cap.mem.wf = true
      ∧ s.cap.seg 0 = .filling ⟨true, false, false, false⟩ ⟨false, false, false, false⟩
      ∧ s.cap.fits 0 ⟨true, false, false, false⟩ s.acq.q = true ∧ s.sett.vals.trigType ≠ 0
      ∧ (source = 1 → s.sett.vals.source = some .ch1 ∧ s.chanState .ch1 = .on) ∧ (source = 5 → s.sett.vals.source = none)
      ∧ (source = 2 → s.sett.vals.source = some .ch2 ∧ s.chanState .ch2 ≠ .on)
      ∧ (0 : Int) ≤ s.trig.lc ∧ ¬ s.trig.lc ≤ 0 ∧ s.trig.lc ≤ 200 ∧ ¬ (200 : Int) ≤ s.trig.lc := by decide +kernel
theorem witness_Completion : (acqIn .fillingPost).acq.state = .fillingPost ∧ (acqIn .fillingPost).acq.inFlight = some 0
    ∧ (acqIn .fillingPost).cap.seg 0 = .filling ⟨true, false, false, false⟩ ⟨false, false, false, false⟩
    ∧ 0 < (acqIn .fillingPost).cap.segs.length ∧ (acqIn .fillingPost).acq.seq < 2 ^ 48 - 1
    ∧ ¬ (acqIn .fillingPost).cap.len ≤ (acqIn .fillingPost).acq.q + 1 + (acqIn .fillingPost).cap.post
    ∧ (acqIn .fillingPost).cap.awaiting = false
    ∧ (acqIn .fillingPost).cap.len ≤ (acqIn .fillingPost).acq.q + 1 + ({ up.cap with post := 8191 } : Cap).post
    ∧ (acqIn .fillingPost).cap.seg 1 = .free ∧ (∀ m, m < 1 → (acqIn .fillingPost).cap.seg m ≠ .free)
    ∧ (acqIn .fillingPost).acq.kind ≠ .single ∧ (acqIn .fillingPost).cap.power = .active
    ∧ ({ up.acq with seq := 2 ^ 48 - 1 } : Acq).seq = 2 ^ 48 - 1 := by decide
/-- A run in a state, and its end at no free segment: segment 0 fills, segment 1 is filed and held by a readout or not. -/
def crowded (kind : RunKind) (held : Bool) : State :=
  { acqIn .fillingPost with
    acq := { (acqIn .fillingPost).acq with kind := kind }
    cap := { up.cap with
      segs := [.filling ⟨true, false, false, false⟩ ⟨false, false, false, false⟩, .complete { filed with read := held }]
      history := [1], post := 8191 } }
theorem witness_RunsGoOn_restart : (∀ st v, (acqIn st).accepts .set 9 (setBody .acqMode v) ∧ (acqIn st).acq.state = st)
    ∧ (∀ p ∈ [(Setting.acqMode, (1 : Int)), (.enable .ch1, 0), (.trigPosition, 0)],
      clampInt (ofLeSigned (leInt 8 p.2)) (up.sett.vals.range p.1).1 (up.sett.vals.range p.1).2 ≠ up.sett.vals.get p.1)
    ∧ up.link.mask.getLsbD 5 = true ∧ up.link.sharedUsed < 9 ∧ (acqIn .ready).acq.stopPending = false
    ∧ (front false 0 0 none).sett.vals.e = 0 ∧ 0 < up.sett.vals.e ∧ 0 < up.sett.vals.kEff ∧ up.cap.power = .active :=
  ⟨fun _ _ => ⟨accepts_up rfl _ _ _ (by simp [setBody, leInt, leBytes, ReqKind.badLength]), rfl⟩, by decide⟩
theorem witness_RunsGoOn_crowded : ∀ kind ∈ [RunKind.continuous, .sequence], ∀ held ∈ [true, false],
    let s := crowded kind held
    s.acq.state = .fillingPost ∧ s.acq.inFlight = some 0 ∧ 0 < s.cap.segs.length ∧ s.cap.awaiting = false
      ∧ s.cap.seg 0 = .filling ⟨true, false, false, false⟩ ⟨false, false, false, false⟩
      ∧ s.cap.len ≤ s.acq.q + 1 + s.cap.post ∧ s.acq.seq < 2 ^ 48 - 1 ∧ s.acq.stopPending = false ∧ 0 ∉ s.cap.history
      ∧ (∀ j, j < s.cap.segs.length → s.cap.seg j ≠ .free) ∧ s.acq.kind = kind ∧ s.cap.power = .active
      ∧ s.cap.history = [] ++ 1 :: [] ∧ (s.cap.seg 1).isUnheld = !held ∧ s.rend.pass = none ∧ s.disp.power = .on
      ∧ s.rend.lastDrawn = none := by decide
/-- At a completion that finds no segment unheld, REND wants the segment filed or, dark or with a pass in flight, does not; the
history holds nothing else, or an entry newer than the last drawn, or one that is not. -/
theorem witness_RunsGoOn_contested : ∀ p ∈ [Power.on, .dim, .blank], ∀ ps ∈ [none, some (pass 0 3)],
    ∀ last ∈ [none, some 2, some 3, some 7], ∀ hist ∈ [[], [1]],
    let c := crowded .continuous true
    let g : Filed := { filed with seq := 3, read := true }
    let s : State := { c with
      acq := { c.acq with seq := 7 }, disp := { c.disp with power := p }
      rend := { c.rend with pass := ps, lastDrawn := last }
      cap := { c.cap with segs := c.cap.seg 0 :: hist.map fun _ => .complete g, history := hist } }
    s.acq.state = .fillingPost ∧ s.acq.inFlight = some 0 ∧ 0 < s.cap.segs.length ∧ s.cap.awaiting = false
      ∧ s.cap.seg 0 = .filling ⟨true, false, false, false⟩ ⟨false, false, false, false⟩
      ∧ s.cap.len ≤ s.acq.q + 1 + s.cap.post ∧ s.acq.seq < 2 ^ 48 - 1 ∧ s.acq.stopPending = false ∧ 0 ∉ s.cap.history
      ∧ (∀ j, j < s.cap.segs.length → s.cap.seg j ≠ .free) ∧ s.acq.kind = .continuous ∧ s.cap.power = .active
      ∧ (∀ x ∈ s.cap.history, (s.cap.seg x).isUnheld = false) ∧ s.rend.pass = ps ∧ s.disp.power = p
      ∧ s.rend.lastDrawn = last ∧ (∀ n, last = some n → n ≤ s.acq.seq) ∧ s.cap.history.getLast? = hist.getLast?
      ∧ (hist = [1] → s.cap.seg 1 = .complete g ∧ 1 < s.cap.segs.length ∧ g.seq = 3) := by decide
/-- RunAndSingle: stopped with no segment FREE, the oldest entry held and a later one not, or every entry held. -/
theorem witness_RunAndSingle_noneFree : ∀ held ∈ [true, false],
    let s : State := { up with cap := { up.cap with
      segs := [.complete { filed with read := held }, .complete filed], history := [1, 0] } }
    s.acq.state = .stopped ∧ 0 < s.sett.vals.e ∧ s.cap.power = .active ∧ s.link = up.link ∧ s.sett.vals.acqMode = 0
      ∧ (∀ j, j < s.cap.segs.length → s.cap.seg j ≠ .free) ∧ s.cap.history = [1] ++ 0 :: []
      ∧ (∀ x ∈ [1], (s.cap.seg x).isUnheld = false) ∧ (s.cap.seg 0).isUnheld = !held := by decide
/-- A SEQUENCE that finds nothing to take, and an ACQ that waits for the segment a readout holds. -/
theorem witness_RunsGoOn_waiting :
    let r : State := { reading (.opened ⟨0, .ch1, 0, 1, 1⟩) with
      sett := { up.sett with vals := { up.sett.vals with acqMode := 1 } }
      cap := { (reading (.opened ⟨0, .ch1, 0, 1, 1⟩)).cap with segs := [.complete filed] } }
    let w : State := { r with acq := { up.acq with state := .arming }, cap := { r.cap with waiting := true } }
    r.acq.state = .stopped ∧ r.sett.vals.acqMode ≠ 0 ∧ r.cap.power = .active ∧ r.link = up.link
      ∧ (∀ j, j < r.cap.segs.length → r.cap.seg j ≠ .free ∧ (r.cap.seg j).isUnheld = false)
      ∧ w.link = up.link ∧ w.cap.readout = .opened ⟨0, .ch1, 0, 1, 1⟩ ∧ w.cap.idle ≠ none ∧ w.cap.seg 0 = .complete filed
      ∧ filed.draw = false ∧ 0 ∈ w.cap.history ∧ 0 < w.cap.segs.length ∧ w.acq.state = .arming ∧ w.acq.kind ≠ .sequence
      ∧ w.cap.waiting = true ∧ (∀ j, j < w.cap.segs.length → w.cap.seg j ≠ .free)
      ∧ (∀ j ∈ w.cap.history, j ≠ 0 → (w.cap.seg j).isUnheld = false) ∧ (1 : Nat) ≤ 512
      ∧ w.cap.fits 0 filed.present filed.q = true := by decide
/-- A pass at its last column holds the one segment that ACQ waits for, beside an entry that a readout holds: newer or older
than the segment drawn, or none. -/
theorem witness_RunsGoOn_pass : ∀ p ∈ [Power.on, .blank], ∀ n ∈ [0, 7], ∀ hist ∈ [[0], [0, 1]],
    let f : Filed := { filed with draw := true, read := false }
    let g : Filed := { filed with seq := n }
    let s : State := { lit p with
      acq := { up.acq with state := .arming, q := 8192 }
      cap := { up.cap with segs := .complete f :: (hist.drop 1).map fun _ => .complete g, history := hist, waiting := true }
      rend := { up.rend with pass := some (pass 0 639) } }
    s.rend.pass = some (pass 0 639) ∧ (pass 0 639).next = 639 ∧ s.cap.seg (pass 0 639).seg = .complete f ∧ f.read = false
      ∧ (pass 0 639).seg ∈ s.cap.history ∧ (pass 0 639).seg < s.cap.segs.length ∧ s.acq.state = .arming
      ∧ s.acq.kind ≠ .sequence ∧ s.cap.waiting = true ∧ (∀ j, j < s.cap.segs.length → s.cap.seg j ≠ .free)
      ∧ (∀ j ∈ s.cap.history, j ≠ (pass 0 639).seg → (s.cap.seg j).isUnheld = false) ∧ s.cap.power = .active
      ∧ s.cap.fits 0 f.present f.q = true ∧ s.disp.power = p ∧ s.link = up.link ∧ s.sett = up.sett
      ∧ s.cap.history.filter (· ≠ (pass 0 639).seg) = hist.drop 1
      ∧ (s.cap.history.getLast? = some (pass 0 639).seg ↔ hist = [0])
      ∧ (hist = [0, 1] → s.cap.seg 1 = .complete g ∧ 1 < s.cap.segs.length)
      ∧ (g.seq ≤ (pass 0 639).seq ↔ n = 0) := by decide
/-! ### Single steps: with Q = 0 the depth is reached at the entry (R64), with Q = L - 1 the trigger sample completes the
fill (R65), and a change to 50 ohms in a turn has its condition read at the turn's end (R32) -/

/-- What the next state of an outcome satisfies; false of a fault and a refusal. -/
def after (r : Result) (p : State → Bool) : Bool :=
  match r with
  | .next s => p s
  | .fault _ | .refused _ => false

/-- R182, R177: the first three bytes of a reply and the last, which leaves the buffer empty; 0x00 with nothing to send. -/
theorem test_clocked_bytes :
    let s := linked { up.link with replies := [⟨0x81, 9, [0]⟩] }
    let clock (s : State) : State := s.setLink s.link.clockByte
    [s, clock s, clock (clock s)].map State.byteOut = [0x5A, 0x81, 9]
    ∧ after (exec .outboundFrameStart (linked { up.link with outBuf := some ⟨[0x5A, 0x81, 9, 7], 3⟩ }))
      (fun t => t.link.outBuf == none && !t.attn && t.byteOut == 0) = true
    ∧ up.byteOut = 0 := by decide +kernel
theorem test_depth_at_entry :
    let s : State := { up with sett := { up.sett with vals := { up.sett.vals with trigPosition := 0 } } }
    after (exec (.run 9 []) s) (fun t => t.acq.state == .ready && t.acq.depth && t.acq.q == 0) = true := by decide +kernel
theorem test_fill_at_trigger_sample :
    let s : State := { acqIn .fillingPost with
      acq := { (acqIn .fillingPost).acq with q := 16383 }, cap := { (acqIn .fillingPost).cap with awaiting := true } }
    after (exec (.digitizerSample (Quad.fill 7)) s) (fun t => t.acq.seq == 1 && t.cap.history == [0] && t.cap.mem == [(16383, 7)])
      = true := by decide +kernel
/-- A latch kept at 1 MΩ: RESTORE_CHANNEL finds the condition absent (R38). -/
theorem test_restore_at_1M :
    after (exec (.restoreChannel 9 [1] 15) (front true 0 1 none)) (fun t => !(t.chans.unit.get .ch1).latch) = true
    ∧ after (exec (.restoreChannel 9 [1] 15) (front true 1 1 none)) (fun t => (t.chans.unit.get .ch1).latch) = true := by
  decide +kernel
theorem test_to50_in_turn :
    after (exec (.calTurnEnd 2048 1) (front false 1 1 (some { selfCal [] with to50 := true })))
      (fun t => (t.chans.unit.get .ch1).latch && (t.chans.unit.get .ch1).front.isolated) = true := by decide +kernel

/-! ### Readout and drawing -/

def cursor (n : Nat) : Cursor := ⟨0, .ch1, 0, 1, n⟩

/-- An OPEN_READOUT body: sequence number 1, a channel, start, count and stride. -/
def openBody (ch : Byte) (start count stride : Nat) : List Byte :=
  [1, 0, 0, 0, 0, 0, ch] ++ leBytes 4 start ++ leBytes 4 count ++ leBytes 2 stride

theorem witness_ReadoutRequests :
    (∀ r ch a b c, (reading r).accepts .openReadout 9 (openBody ch a b c))
    ∧ (reading (.opened (cursor 1))).cap.readout.isOpen = true ∧ (reading .abandoned).cap.readout.isOpen = false
    ∧ (reading .closed).cap.completed.find? (fun x => x.2.seq == 1) = some (0, filed) ∧ up.cap.history = []
    ∧ filed.present.get .ch1 = true ∧ filed.present.get .ch4 = false
    ∧ ofLe (((openBody 1 16383 1 1024).drop 7).take 4) = 16383 ∧ (reading .closed).cap.len = 16384
    ∧ ofLe (((openBody 1 16383 1 1024).drop 11).take 4) = 1 ∧ ofLe (((openBody 1 16383 1 1024).drop 15).take 2) = 1024 :=
  ⟨fun _ _ _ _ _ => accepts_up rfl _ _ _ (by simp [openBody, leBytes, ReqKind.badLength]), by decide⟩
theorem witness_ReadoutRequests_chunk : (∀ r, (reading r).accepts .readChunk 9 [] ∧ (reading r).cap.readout = r)
    ∧ (reading .closed).cap.seg 0 = .complete filed ∧ (reading .closed).cap.fits 0 filed.present filed.q = true
    ∧ 512 < (cursor 513).remaining ∧ (cursor 512).remaining ≤ 512 ∧ (reading .closed).cap.waiting = false :=
  ⟨fun _ => ⟨accepts_up rfl _ _ _ rfl, rfl⟩, by decide⟩
theorem witness_ReadoutEndsAndWake : (∀ r, (reading r).accepts .closeReadout 9 [] ∧ (reading r).cap.readout = r
      ∧ (reading r).cap.idle ≠ none ∧ (reading r).cap.waiting = false)
    ∧ (let s : State := { reading (.opening (cursor 1) 7 .ok [8]) with
          link := { up.link with table := [⟨7, .openReadout⟩, ⟨8, .readChunk⟩] } }
      s.owedOk = true ∧ (⟨7, .openReadout⟩ : PendingReq) ∈ s.link.table
        ∧ (∀ x ∈ ([8] : List Byte), (⟨x, .readChunk⟩ : PendingReq) ∈ s.link.table) ∧ s.link.used < 16) :=
  ⟨fun _ => ⟨accepts_up rfl _ _ _ rfl, rfl, by simp [reading], rfl⟩, by decide⟩
/-- READ_CHUNKs behind a wake: fewer than the readout has chunks, just as many, and more; ACQ in ARMING or not. -/
theorem witness_ReadoutEndsAndWake_chunks : ∀ n ∈ [1, 512, 513], ∀ w ∈ [[], [8], [8, 3, 9]], ∀ st ∈ [AcqState.stopped, .arming],
    let s : State := { reading (.opening (cursor n) 7 .ok w) with
      acq := { up.acq with state := st }
      cap := { (reading (.opening (cursor n) 7 .ok w)).cap with power := .waking, idle := none }
      link := { up.link with table := ⟨7, .openReadout⟩ :: w.map fun x => ⟨x, .readChunk⟩ } }
    s.cap.power = .waking ∧ s.cap.readout = .opening (cursor n) 7 .ok w ∧ s.cap.seg 0 = .complete filed
      ∧ filed.read = true ∧ s.cap.fits 0 filed.present filed.q = true ∧ 0 < (cursor n).remaining ∧ s.owedOk = true
      ∧ (⟨7, .openReadout⟩ : PendingReq) ∈ s.link.table ∧ (∀ x ∈ w, (⟨x, .readChunk⟩ : PendingReq) ∈ s.link.table)
      ∧ s.cap.waiting = false ∧ s.acq.state = st ∧ 1 < s.cap.segs.length ∧ s.cap.seg 1 = .free := by decide
theorem witness_ReadoutEndsAndWake_wake : up.cap.power ≠ .waking ∧ ({ up.cap with power := .waking } : Cap).power = .waking
    ∧ (∀ c t st w, up.cap.readout ≠ .opening c t st w) ∧ (acqIn .arming).acq.state = .arming
    ∧ (acqIn .arming).cap.seg 0 = .free
    ∧ (reading (.opening (cursor 1) 7 .ok [])).cap.readout = .opening (cursor 1) 7 .ok []
    ∧ ([⟨7, .openReadout⟩] : List PendingReq).find? (fun p => p.tag = (7 : Byte)) = some ⟨7, .openReadout⟩ :=
  ⟨by decide, rfl, by simp [up], rfl, by decide, rfl, by decide⟩
theorem witness_DrawColumn : (∀ style ∈ [(0 : Int), 1], ∀ next ∈ [0, 1, 639],
      (drawing style next).rend.pass = some (pass style next) ∧ (pass style next).drawn.get .ch1 = true
      ∧ (pass style next).drawn.get .ch2 = false)
    ∧ (drawing 0 0).cap.power = .active ∧ (drawing 0 0).cap.seg 0 = .complete filed
    ∧ (drawing 0 0).cap.fits 0 filed.present filed.q = true ∧ (drawing 0 0).cap.waiting = false
    ∧ ((drawing 0 0).rend.maps.get .ch1).wf = true
    ∧ (∀ i g, (drawing 0 639).cap.history.getLast? = some i → (drawing 0 639).cap.seg i = .complete g → g.seq ≤ 1) := by
  refine ⟨by decide, by decide, by decide, by decide, by decide, by decide, ?_⟩
  intro i g h k
  simp [drawing, reading] at h
  subst h
  simp [drawing, reading, Cap.seg] at k
  subst k
  decide

/-- FindingsAndPicture: a column whose one row lies within the span before it, and the last one, a graticule pixel and an
overlay pixel, and lamps lit and dark. -/
theorem witness_FindingsAndPicture_last : (drawing 0 639).rend.pass = some (pass 0 639) ∧ (pass 0 639).next = 639
    ∧ (drawing 0 639).cap.seg 0 = .complete filed ∧ (drawing 0 639).cap.fits 0 filed.present filed.q = true
    ∧ (drawing 0 639).cap.power = .active := by decide
theorem witness_FindingsAndPicture : (drawing 0 3).rend.pass = some (pass 0 3) ∧ (pass 0 3).next < 639
    ∧ (pass 0 3).span.get .ch1 = some (199, 199) ∧ (pass 0 3).drawn.get .ch1 = true ∧ (pass 0 3).drawn.get .ch4 = false
    ∧ (drawing 0 3).cap.seg 0 = .complete filed ∧ (drawing 0 3).cap.fits 0 filed.present filed.q = true
    ∧ (drawing 0 3).cap.power = .active
    ∧ (let first := (pass 0 3).s + (pass 0 3).next * (pass 0 3).w / 640
      let count := (pass 0 3).s + ((pass 0 3).next + 1) * (pass 0 3).w / 640 - first
      0 < count ∧ ∀ k, k < count → (drawing 0 3).cap.sample 0 filed .ch1 (first + k) = 0) := by decide +kernel
theorem witness_FindingsAndPicture_pixels : up.disp.power = .on ∧ up.disp.front.read (40 * 800 + 80) = 0
    ∧ (∀ ch ∈ Channel.all, (up.rend.maps.get ch).read 0 = 0) ∧ up.sett.vals.graticule = 0
    ∧ (Mem.write [] (24 * 800) 15).read (24 * 800) ≠ 0 ∧ up.disp.palette[15 - 1]? = some ⟨128, 0, 0⟩
    ∧ (Mem.write [] 0 255).read 0 = 255 ∧ up.lampShown ⟨.running, .off⟩ = .off ∧ up.lampShown ⟨.stopped, .off⟩ = .on
    ∧ up.lampShown ⟨.link, .slow⟩ = .slow := by decide
/-! ### Display -/

theorem witness_FramesAndFlips : up.accepts .clearPersist 9 [] ∧ (lit .blank).disp.power ≠ .on
    ∧ (lit .blank).disp.power ≠ .dim ∧ (lit .dim).disp.power = .dim ∧ up.sett.vals.persistMode = 0
    ∧ (up.rend.maps.get .ch1).wf = true
    ∧ ({ up.disp with queue := [.endBatch 7] } : Disp).queue = [.endBatch 7] ∧ up.disp.sync = false :=
  ⟨accepts_up rfl _ _ _ rfl, by decide, by decide, rfl, by decide, by decide, rfl, rfl⟩
theorem witness_FillRectAndPixels : up.accepts .fillRect 9 [255, 255, 0, 0, 2, 0, 1, 0, 15]
    ∧ up.accepts .fillRect 9 [0, 0, 0, 0, 1, 0, 1, 0, 16] ∧ up.accepts .putPixels 9 [0, 0, 0, 0, 2, 0, 1, 0, 1, 15]
    ∧ up.disp.queue = [] ∧ up.disp.sync = false ∧ up.disp.back.wf = true
    ∧ 32 ≤ (List.replicate 32 (Overlay.endBatch 1)).length ∧ (lit .on).disp.power.isLit = true
    ∧ (∃ r ∈ runsOf [0, 16], 15 < r.2.toNat) ∧ (∀ r ∈ runsOf [1, 15], r.2.toNat ≤ 15) :=
  ⟨accepts_up rfl _ _ _ rfl, accepts_up rfl _ _ _ rfl, accepts_up rfl _ _ _ rfl, rfl, rfl, rfl, by simp, rfl,
    ⟨(1, 16), by decide⟩, by decide⟩
theorem witness_PutText : up.accepts .putText 9 [0, 0, 0, 0, 15, 0, 0x1F] ∧ (15 : Byte).toNat ≤ 15 ∧ 15 < (16 : Byte).toNat
    ∧ up.disp.queue = [] ∧ up.disp.sync = false ∧ up.disp.back.wf = true :=
  ⟨accepts_up rfl _ _ _ rfl, by decide, by decide, rfl, rfl, rfl⟩
theorem witness_FramesAndFlips_sync : (∀ p, (lit p).accepts .endBatch 9 [] ∧ (lit p).disp.queue = [] ∧ (lit p).disp.sync = false)
    ∧ (lit .blank).disp.power.isLit = false ∧ (lit .dim).disp.power.isLit = true
    ∧ ({ up.disp with sync := true, queue := [.endBatch 7] } : Disp).queue = [.endBatch 7]
    ∧ ([⟨7, .endBatch⟩] : List PendingReq).find? (fun p => p.tag = (7 : Byte)) = some ⟨7, .endBatch⟩ :=
  ⟨fun _ => ⟨accepts_up rfl _ _ _ rfl, rfl, rfl⟩, rfl, rfl, rfl, by decide⟩
/-- Overlay commands that wait behind a plane sync: three drawing commands, and an END_BATCH after them or none. -/
def waiting (p : Power) (rest : List Overlay) : State :=
  { lit p with disp := { (lit p).disp with
      sync := true, queue := [.fillRect (-1) 0 2 1 15, .putText 0 0 0 0 [0x41, 0x1F], .putPixels 0 0 2 1 [(2, 1)]] ++ rest } }
/-- FramesAndFlips, FillRectAndPixels, PutText and DisplayPower: a queue with commands that wait, with and without an END_BATCH
that the dark lets flip; and a queue whose head is a waiting END_BATCH. -/
theorem witness_waiting : (∀ p, ∀ rest ∈ [[], [Overlay.endBatch 7]],
      let s := waiting p rest
      s.disp.sync = true ∧ s.disp.front.wf = true ∧ s.disp.queue.length < 32 ∧ s.disp.power = p
      ∧ s.disp.queue = [.fillRect (-1) 0 2 1 15, .putText 0 0 0 0 [0x41, 0x1F], .putPixels 0 0 2 1 [(2, 1)]] ++ rest
      ∧ s.accepts .putText 9 [0, 0, 0, 0, 15, 0, 0x1F] ∧ s.accepts .putPixels 9 [0, 0, 0, 0, 2, 0, 1, 0, 1, 15]
      ∧ s.accepts .fillRect 9 [0, 0, 0, 0, 1, 0, 1, 0, 16] ∧ s.accepts .setDisplayPower 9 [2, 0, 0])
    ∧ (([(2, 1)] : List (Nat × Byte)).map Prod.fst).sum = 2 * 1
    ∧ (∀ p, let s : State := { lit p with
          disp := { (lit p).disp with queue := [.endBatch 7] }, link := { up.link with table := [⟨7, .endBatch⟩] } }
        s.disp.queue = .endBatch 7 :: [] ∧ s.disp.sync = false ∧ s.disp.power = p
        ∧ s.accepts .setDisplayPower 9 [2, 0, 0] ∧ s.accepts .putText 9 [0, 0, 0, 0, 15, 0, 0x1F]
        ∧ s.link.table.find? (fun x => x.tag = (7 : Byte)) = some ⟨7, .endBatch⟩) := by
  refine ⟨fun p rest h => ?_, by decide, fun p => ⟨rfl, rfl, rfl, ?_, ?_, rfl⟩⟩
  rotate_left
  · unfold State.accepts; cases p <;> decide
  · unfold State.accepts; cases p <;> decide
  refine ⟨rfl, rfl, ?_, rfl, rfl, accepts_up rfl _ _ _ rfl, accepts_up rfl _ _ _ rfl, accepts_up rfl _ _ _ rfl,
    accepts_up rfl _ _ _ rfl⟩
  revert rest
  cases p <;> decide
theorem witness_PaletteAndTimeouts : (∀ i, up.accepts .setPalette 9 [i, 0, 0, 0])
    ∧ up.accepts .setDisplayTimeouts 9 [44, 1, 8, 7] ∧ (0 : Byte).toNat = 0 ∧ 15 < (16 : Byte).toNat ∧ 1 ≤ (1 : Byte).toNat
    ∧ (15 : Byte).toNat ≤ 15 ∧ ([] : List Byte).length ≠ 4 :=
  ⟨fun _ => accepts_up rfl _ _ _ rfl, accepts_up rfl _ _ _ rfl, by decide⟩
theorem witness_DisplayPower : (∀ p r, (lit p).accepts .setDisplayPower 9 [r, 16, 3] ∧ (lit p).disp.queue = []
    ∧ (lit p).disp.power = p) ∧ 2 < (3 : Byte).toNat := ⟨fun _ _ => ⟨accepts_up rfl _ _ _ rfl, rfl, rfl⟩, by decide⟩
theorem witness_DisplayPower_steps : (∀ p, (lit p).disp.queue = [] ∧ (lit p).disp.power = p ∧ (lit p).disp.scanning = true
    ∧ (lit p).disp.dimTimeout ≠ 0 ∧ (lit p).disp.blankTimeout ≠ 0 ∧ (lit p).disp.blankPending = false
    ∧ (lit p).disp.wakePending = none) ∧ State.reset.disp.scanning = false :=
  ⟨fun _ => ⟨rfl, rfl, rfl, by simp [lit, up, Disp.reset], by simp [lit, up, Disp.reset], rfl, rfl⟩, rfl⟩

/-- The items of a refused SET_DISPLAY_POWER (R132) and ANSWER_LOCAL (R157). -/
theorem test_bad_value_items :
    after (exec (.setDisplayPower 9 [3, 1, 2]) up) (fun t => t.link.replies == [⟨0xA6, 9, [4, 2, 15, 3]⟩]) = true
    ∧ after (exec (.answerLocal 9 [2]) up) (fun t => (t.link.replies.map Reply.body) == [[4, 15, 0]]) = true := by
  decide +kernel

/-! ### Front panel, authority, store -/

theorem witness_Bindings : (∀ a b c d, up.accepts .setKeyBinding 9 [a, b, c, d])
    ∧ (∀ a b c, up.accepts .setEncoderBinding 9 [a, b, c] ∧ up.accepts .setLed 9 [a, b, c])
    ∧ (KeyAction.saveSlot 31).code = 9 ∧ (KeyAction.recallSlot 0).code = 10 ∧ (KeyAction.restore .ch4).code = 8
    ∧ (EncTarget.scale .ch4).code = 4 ∧ Channel.ch4.num = (4 : Byte).toNat ∧ LampSource.anyStale.code = 14
    ∧ (63 : Byte).toNat ≤ 63 ∧ 63 < (64 : Byte).toNat ∧ 31 < (32 : Byte).toNat ∧ (32 : Byte) ≠ 255 :=
  ⟨fun _ _ _ _ => accepts_up rfl _ _ _ rfl, fun _ _ _ => ⟨accepts_up rfl _ _ _ rfl, accepts_up rfl _ _ _ rfl⟩, by decide⟩

/-- Only key 5 is sensed, or none. -/
theorem witness_MatrixScan : up.panel.scanning = true ∧ (5 : Nat) < 64
    ∧ (∀ j, j < 64 → j ≠ 5 → (0x20 : BitVec 64).getLsbD j = (up.panel.key j).pressed)
    ∧ (∀ j, j < 64 → j ≠ 5 → (0 : BitVec 64).getLsbD j = (up.panel.key j).pressed)
    ∧ (0x20 : BitVec 64).getLsbD 5 = true ∧ (keyed ⟨false, 3, false, none⟩ ⟨.report, false, false⟩).panel.key 5
      = ⟨false, 3, false, none⟩ ∧ (keyed ⟨true, 3, false, none⟩ ⟨.force, false, false⟩).panel.binding 5
      = ⟨.force, false, false⟩ ∧ up.disp.power = .on ∧ (lit .poweringUp).disp.power = .poweringUp
    ∧ up.auth.set.display = true ∧ up.auth.set.trigger = true ∧ up.acq.state = .stopped
    ∧ (KeyAction.force.groups.all (⟨true, false, true, true⟩ : AuthSet).has) = false := by decide +kernel
/-- MatrixScan and LocalActions: key 5 about to be accepted, pressed or released, in every power state. -/
theorem witness_MatrixScan_power : ∀ p, ∀ w ∈ [none, some Cause.activity], ∀ x : Key,
    let s : State := { keyed x ⟨.report, false, false⟩ with disp := { (lit p).disp with wakePending := w } }
    s.panel.scanning = true ∧ s.panel.key 5 = x ∧ s.disp.power = p ∧ s.disp.wakePending = w
      ∧ (s.panel.binding 5).action = .report := fun _ _ _ _ => ⟨rfl, rfl, rfl, rfl, rfl⟩
/-- Keys 4 and 13 held: the guard holds for key 5. -/
theorem witness_MatrixScan_guard :
    let held : Key := ⟨true, 0, false, none⟩
    let p := { up.panel with keys := (up.panel.keys.setIfInBounds 4 held).setIfInBounds 13 held }
    (p.key 4).pressed = true ∧ (p.key 13).pressed = true ∧ 4 / 8 = 5 / 8 ∧ 13 % 8 = 5 % 8 := by decide +kernel
theorem witness_HoldsAndKnobs : (up.panel.key (5 : Fin 64)).hold = none ∧ up.disp.power = .on
    ∧ (∀ c, ∀ l ∈ [none, some (⟨2000000, 0⟩ : Timer)],
      ((keyed ⟨true, 0, false, some ⟨⟨400000, 0⟩, l, c⟩⟩ ⟨.report, c, false⟩).panel.key (5 : Fin 64)).hold
        = some ⟨⟨400000, 0⟩, l, c⟩ ∧ ((keyed Key.initial ⟨.report, c, false⟩).panel.binding (5 : Fin 64)).repeatFlag = c)
    ∧ (∀ p, (lit p).disp.power = p ∧ (lit p).disp.wakePending = none)
    ∧ ({ up.disp with wakePending := some .request } : Disp).wakePending ≠ none :=
  ⟨by decide +kernel, rfl, by decide +kernel, fun _ => ⟨rfl, rfl⟩, by decide⟩
theorem witness_HoldsAndKnobs_lines : up.panel.scanning = true ∧ State.reset.panel.scanning = false ∧ up.disp.power = .on
    ∧ up.panel.enc (2 : Fin 6) = ⟨false, false, .rest, none⟩
    ∧ (∀ cw, ∀ x ∈ [(⟨cw, !cw, .cycle cw 1, none⟩ : Encoder), ⟨true, true, .cycle cw 2, none⟩,
        ⟨!cw, cw, .cycle cw 3, none⟩, ⟨!cw, cw, .cycle cw 3, some ⟨cw, 9, 0⟩⟩, ⟨true, true, .lost, none⟩],
        (turned x).panel.enc (2 : Fin 6) = x) := by decide +kernel
/-- The third line change of a turn done, in every power state. -/
theorem witness_HoldsAndKnobs_power : ∀ cw p, ∀ w ∈ [none, some Cause.activity],
    let s : State := { turned ⟨!cw, cw, .cycle cw 3, none⟩ with disp := { (lit p).disp with wakePending := w } }
    s.panel.scanning = true ∧ s.panel.enc (2 : Fin 6) = ⟨!cw, cw, .cycle cw 3, none⟩ ∧ s.disp.power = p
      ∧ s.disp.wakePending = w := fun _ _ _ _ => ⟨rfl, rfl, rfl, rfl⟩
/-- Every target, with and without authority; a span that doubles, one that stands at the record length, and one that halves. -/
theorem witness_HoldsAndKnobs_targets : (∀ t : EncTarget,
      (({ up with panel := { up.panel with encBind := up.panel.encBind.setIfInBounds 2 t } } : State).panel.encTarget 2) = t)
    ∧ up.auth.set.display = true ∧ (⟨true, false, false, true⟩ : AuthSet).display = false ∧ up.sett.vals.inRange = true
    ∧ min (up.sett.vals.len : Int) (2 * 700) ≠ 700 ∧ min (up.sett.vals.len : Int) (2 * up.sett.vals.viewSpan)
      = up.sett.vals.viewSpan ∧ max 640 (up.sett.vals.viewSpan / 2) ≠ up.sett.vals.viewSpan
    ∧ up.link.mask.getLsbD 3 = true :=
  ⟨fun _ => rfl, by decide⟩
/-- The last line change of a detent on VIEW_SPAN, in the view of R148's example. -/
def spanTurn (cw : Bool) (p : Power) : State :=
  { turned ⟨!cw, cw, .cycle cw 3, none⟩ with
    sett := { up.sett with vals := { up.sett.vals with viewStart := 4000, viewSpan := 1600 } }
    disp := (lit p).disp
    panel := { (turned ⟨!cw, cw, .cycle cw 3, none⟩).panel with encBind := up.panel.encBind.setIfInBounds 2 .viewSpan } }

theorem witness_HoldsAndKnobs_between : (∀ cw, ∀ p ∈ [Power.on, .dim], let s := spanTurn cw p
    s.panel.enc (2 : Fin 6) = ⟨!cw, cw, .cycle cw 3, none⟩ ∧ s.panel.encTarget (2 : Fin 6) = .viewSpan ∧ s.disp.power = p
      ∧ s.auth.set.display = true ∧ s.panel.scanning = true ∧ s.sett.vals.inRange = true ∧ s.link = up.link
      ∧ (if cw then min (s.sett.vals.len : Int) (2 * s.sett.vals.viewSpan) else max 640 (s.sett.vals.viewSpan / 2))
        ≠ s.sett.vals.viewSpan ∧ s.link.mask.getLsbD 2 = true ∧ s.link.notices = [])
    ∧ (∀ v o, up.accepts .setAuthority 9 [v, o]) ∧ (11 : Byte).toNat.testBit 2 = false ∧ (15 : Byte).toNat.testBit 2 = true :=
  ⟨by decide, fun _ _ => accepts_up rfl _ _ _ (by simp [ReqKind.badLength]), by decide⟩
/-- R148's example: a detent alone, and one that a SET_AUTHORITY removing DISPLAY meets. -/
theorem test_span_detent :
    after (exec (.encoderLineChange 2 (false, false) none) (spanTurn false .on))
      (fun t => t.sett.vals.viewSpan == 800 && t.sett.vals.viewStart == 4400) = true
    ∧ after (exec (.encoderLineChange 2 (false, false) (some (9, [11, 0]))) (spanTurn false .on))
      (fun t => t.sett.vals.viewSpan == 800 && t.sett.vals.viewStart == 4000 && !t.auth.set.display
        && t.link.notices.getLast? == some (.encoder 2 (-1) true .viewSpan)) = true := by decide +kernel
/-- Key 5 about to be accepted, bound to each local action; ACQ, the latch, the slot and AUTH in the states named. -/
theorem witness_LocalActions : (∀ a f, (keyed ⟨false, 3, false, none⟩ ⟨a, false, f⟩).panel.binding 5 = ⟨a, false, f⟩
      ∧ (keyed ⟨false, 3, false, none⟩ ⟨a, false, f⟩).panel.key 5 = ⟨false, 3, false, none⟩
      ∧ (keyed ⟨false, 3, false, none⟩ ⟨a, false, f⟩).panel.scanning = true)
    ∧ (0x20 : BitVec 64).getLsbD 5 = true
    ∧ (∀ j, j < 64 → j ≠ 5 → (0x20 : BitVec 64).getLsbD j = ((keyed ⟨false, 3, false, none⟩ KeyBinding.initial).panel.key j).pressed)
    ∧ up.auth.set = ⟨true, true, true, true⟩ ∧ up.disp.power = .on ∧ (∀ st, (acqIn st).acq.state = st)
    ∧ up.cap.seg 0 = .free ∧ 0 < up.cap.segs.length ∧ 0 < up.sett.vals.e ∧ (front false 0 0 none).sett.vals.e = 0
    ∧ up.acq.kind ≠ .single ∧ ((front true 1 1 none).chans.unit.get .ch1).latch = true
    ∧ (∀ p q r, ((stored { validEntry with isProtected := p } q r).store.entry 3).isProtected = p
        ∧ (stored validEntry q r).store.queue = q ∧ (stored validEntry q r).store.running = r)
    ∧ up.store.entry 3 = Entry.bare .empty ∧ up.store.calPending = false ∧ up.store.autoHeld = none
    ∧ up.auth.state = .idle ∧ (⟨true, true, true, false⟩ : AuthSet) ≠ ⟨true, true, true, true⟩ :=
  ⟨fun _ _ => ⟨rfl, rfl, rfl⟩, by decide, by decide +kernel, rfl, rfl, fun _ => rfl, by decide, by decide, by decide, by decide,
    by decide, rfl, fun _ _ _ => ⟨rfl, rfl, rfl⟩, by decide +kernel, rfl, rfl, rfl, by decide⟩
/-- LocalActions: a long of a held local key, with a request that may be overridden and one that may not. -/
theorem witness_LocalActions_long : ∀ a ∈ [KeyAction.localRequest, .single], ∀ o,
    let h : Hold := ⟨⟨80000, 0⟩, some ⟨2000000, 2000000⟩, false⟩
    let s : State := { keyed ⟨true, 0, false, some h⟩ ⟨a, false, true⟩ with
      auth := { up.auth with state := .requested, override := o, set := ⟨false, true, true, true⟩ } }
    (s.panel.key (5 : Fin 64)).hold = some h ∧ h.longTimer ≠ none ∧ h.consumed = false ∧ s.disp.power = .on
      ∧ (s.panel.binding (5 : Fin 64)).action = a ∧ s.auth.state = .requested ∧ s.auth.override = o := by decide +kernel
theorem witness_AuthorityExchange : (∀ v o, up.accepts .setAuthority 9 [v, o]) ∧ (∀ v, up.accepts .answerLocal 9 [v])
    ∧ (15 : Byte).toNat ≤ 15 ∧ 15 < (16 : Byte).toNat ∧ (1 : Byte).toNat ≤ 1 ∧ 1 < (2 : Byte).toNat
    ∧ up.auth.state = .idle ∧ ({ up.auth with state := .requested } : Auth).state = .requested :=
  ⟨fun _ _ => accepts_up rfl _ _ _ rfl, fun _ => accepts_up rfl _ _ _ rfl, by decide⟩
theorem witness_StoreRequests : (∀ e q r slot on, (stored e q r).accepts .save 9 [slot, 0x20]
      ∧ (stored e q r).accepts .recall 9 [slot] ∧ (stored e q r).accepts .erase 9 [slot]
      ∧ (stored e q r).accepts .protect 9 [slot, on] ∧ (stored e q r).accepts .setAutosave 9 [on])
    ∧ (stored validEntry [] none).store.entry 3 = validEntry ∧ (stored validEntry [] none).store.queue = []
    ∧ (stored validEntry [linkOp .erase] (some running)).store.running ≠ none
    ∧ 4 ≤ (List.replicate 4 (linkOp .erase)).length ∧ (stored (Entry.bare .bad) [] none).store.calPending = false
    ∧ (stored { validEntry with isProtected := true } [] none).store.entry 3 ≠ validEntry :=
  ⟨fun _ _ _ _ _ => ⟨accepts_up rfl _ _ _ rfl, accepts_up rfl _ _ _ rfl, accepts_up rfl _ _ _ rfl, accepts_up rfl _ _ _ rfl,
    accepts_up rfl _ _ _ rfl⟩, by decide +kernel⟩
theorem witness_StoreCompletions : (∀ k : OpKind, (stored validEntry [linkOp k] (some running)).store.queue = [linkOp k]
      ∧ (stored validEntry [linkOp k] (some running)).store.running = some running
      ∧ (linkOp k).kind = k ∧ (linkOp k).image = some ⟨1, Settings.defaults⟩) ∧ running.silent = false
    ∧ up.store.calPending = false ∧ up.store.autoHeld = none ∧ (3 : Nat) < 32 ∧ Settings.defaults.inRange = true
    ∧ up.owedOk = true ∧ up.store.autoTimer = none ∧ up.store.queue = [] ∧ (up.store.entry 0).isProtected = false
    ∧ (∀ h i, up.store.device.sector 3 ≠ .written h i)
    ∧ Device.sector (Device.blank.putSector 3 (.written ⟨[], .link, none, 1, false⟩ ⟨2, Settings.defaults⟩)) 3
      = .written ⟨[], .link, none, 1, false⟩ ⟨2, Settings.defaults⟩ := by
  refine ⟨fun _ => ⟨rfl, rfl, rfl, rfl⟩, rfl, rfl, rfl, by decide, by decide, by decide, rfl, rfl, by decide +kernel, ?_,
    by decide +kernel⟩
  intro h i e
  have : up.store.device.sector 3 = .blank := by decide +kernel
  rw [this] at e
  cases e

/-- StoreCompletions and StoreQueue: images within and outside their ranges, with and without a changed RESTART setting. -/
theorem witness_StoreCompletions_images :
    ({ Settings.defaults with acqMode := 1 } : Settings).inRange = true
    ∧ ({ Settings.defaults with acqMode := 1 } : Settings).get .acqMode ≠ up.sett.vals.get .acqMode ∧ Setting.acqMode.id ≤ 35
    ∧ ({ Settings.defaults with intensity := 65 } : Settings).inRange = false
    ∧ (∀ k ∈ Setting.all, k.id ≤ 35 ∨ k.id = 58 →
        ({ Settings.defaults with intensity := 64 } : Settings).get k = up.sett.vals.get k)
    ∧ (stored validEntry [linkOp .recall] (some running)).owedOk = false
    ∧ ({ stored validEntry [linkOp .recall] (some running) with
        link := { up.link with table := [⟨9, .recall⟩] } } : State).owedOk = true
    ∧ ([⟨9, .recall⟩] : List PendingReq).find? (fun p => p.tag = (9 : Byte)) = some ⟨9, .recall⟩ := by decide
/-- StoreQueue: the executing operation alone, and before a SAVE of another slot, a CAL_WRITE or an AUTOSAVE. -/
theorem witness_StoreQueue : (∀ (k : OpKind) (rest : List Op), (stored validEntry (linkOp k :: rest) (some running)).store.queue
        = linkOp k :: rest ∧ (stored validEntry (linkOp k :: rest) (some running)).store.running = some running
      ∧ (linkOp k).kind = k)
    ∧ (let save : Op := ⟨.save, .panel, 4, 0, [], some ⟨1, Settings.defaults⟩, false⟩
      save.kind = .save ∧ save.slot ≠ (linkOp .save).slot ∧ save.slot < 32 ∧ save.origin = .panel
        ∧ ((stored validEntry [linkOp .save, save] (some running)).store.entry save.slot).isProtected = false
        ∧ save.image = some ⟨1, Settings.defaults⟩)
    ∧ calWriteOp.kind = .calWrite ∧ (∀ i, (autosaveOp i).kind = .autosave ∧ (autosaveOp i).origin = .auto
        ∧ (autosaveOp i).slot < 32)
    ∧ ({ running with silent := true } : Running).silent = true ∧ running.silent = false ∧ Settings.defaults.inRange = true
    ∧ up.link.mask.getLsbD 8 = true ∧ up.link.sharedUsed ≤ 3 :=
  ⟨fun _ _ => ⟨rfl, rfl, rfl⟩, by decide +kernel, rfl, fun _ => ⟨rfl, rfl, by simp [autosaveOp]⟩, rfl, rfl, by decide, by decide,
    by decide⟩
/-- StoreQueue: a self-calibration about to end and an autosave timer, with the queue short, full, or holding the like. -/
theorem witness_StoreQueue_pending : (selfCal []).todo = [] ∧ (front false 0 1 (some (selfCal []))).chans.selfCal = some (selfCal [])
    ∧ (∀ ops ∈ [[], [linkOp .erase], List.replicate 3 (linkOp .erase)], ∀ x ∈ ops, x.kind ≠ .calWrite ∧ x.kind ≠ .autosave)
    ∧ (∃ x ∈ [calWriteOp], x.kind = .calWrite) ∧ 4 ≤ (linkOp .save :: List.replicate 3 (linkOp .erase)).length
    ∧ (∃ x ∈ [autosaveOp ⟨1, Settings.defaults⟩], x.kind = .autosave)
    ∧ ({ up.store with autoTimer := some ⟨5000000, 5000000⟩ } : Store).autoTimer ≠ none := by decide
end Sys2Proof.Tests
end

section
/-! One column of a pass (R95 to R104): what a hit, a span and a column do to a map, and how a pass ends. -/

namespace Sys2Proof.Machine

/-! ### Hits (R101) -/

theorem hitCount_toNat (h : Nat) (count : Byte) : (hitCount h count).toNat = min 255 (count.toNat + h) := by
  simp only [hitCount, BitVec.toNat_ofNat]
  omega

theorem Mem.wf_hit {m : Mem} (hm : m.wf = true) (h key : Nat) : (m.hit h key).wf = true := Mem.wf_write hm _ _

theorem Mem.read_hit {m : Mem} (hm : m.wf = true) (h key a : Nat) :
    (m.hit h key).read a = if a = key then hitCount h (m.read a) else m.read a := by
  by_cases ha : a = key
  · subst ha
    rw [if_pos rfl, Mem.hit, Mem.read_write hm]
  · rw [if_neg ha, Mem.hit, Mem.read_write_other ha]

/-- One hit at each of `n` different keys: a read finds the old count, hit once where its address is among the keys. -/
theorem Mem.read_hits {m : Mem} (hm : m.wf = true) (h : Nat) {key : Nat → Nat} (hkey : key.Injective) (n a : Nat) :
    ((List.range n).foldl (fun m k => m.hit h (key k)) m).read a
      = if ∃ k < n, key k = a then hitCount h (m.read a) else m.read a := by
  induction n with
  | zero => simp
  | succ n ih =>
    have hwf : ((List.range n).foldl (fun m k => m.hit h (key k)) m).wf = true :=
      Mem.wf_foldl_write key (fun m k => hitCount h (m.read (key k))) hm
    rw [List.range_succ, List.foldl_append, List.foldl_cons, List.foldl_nil, Mem.read_hit hwf, ih]
    by_cases ha : a = key n
    · have hnew : ¬ ∃ k < n, key k = a := fun ⟨k, hk, e⟩ => hk.ne (hkey (e.trans ha))
      rw [if_pos ha, if_neg hnew, if_pos ⟨n, n.lt_succ_self, ha.symm⟩]
    · have hsame : (∃ k < n + 1, key k = a) ↔ ∃ k < n, key k = a :=
        ⟨fun ⟨k, hk, e⟩ => ⟨k, (Nat.lt_succ_iff_lt_or_eq.mp hk).resolve_right fun hkn => ha (hkn ▸ e.symm), e⟩,
          fun ⟨k, hk, e⟩ => ⟨k, hk.trans n.lt_succ_self, e⟩⟩
      simp only [if_neg ha, hsame]

theorem gridKey_inj {c c' r r' : Nat} (hc : c < 640) (hc' : c' < 640) :
    gridKey c r = gridKey c' r' ↔ c = c' ∧ r = r' := by
  unfold gridKey
  omega

/-! ### Spans (R98, R99) -/

/-- R99: a span hits its own column in the rows of the grid that lie in it, and no other count. -/
theorem drawSpan_read {m : Mem} (hm : m.wf = true) (h : Nat) {c c' r : Nat} (hc : c < 640) (hc' : c' < 640) (hr : r < 400)
    (span : Int × Int) : (drawSpan m h c span).map.read (gridKey c' r)
      = if c' = c ∧ span.1 ≤ r ∧ r ≤ span.2 then hitCount h (m.read (gridKey c' r)) else m.read (gridKey c' r) := by
  unfold drawSpan
  split
  · next habove => rw [if_neg (by omega)]
  · split
    · next hbelow => rw [if_neg (by omega)]
    · have hinj : Function.Injective fun k => gridKey c ((max 0 span.1).toNat + k) := fun a b e => by
        have := ((gridKey_inj hc hc).mp e).2
        omega
      have hrows : (∃ k < (min 399 span.2).toNat + 1 - (max 0 span.1).toNat,
          gridKey c ((max 0 span.1).toNat + k) = gridKey c' r) ↔ c' = c ∧ span.1 ≤ r ∧ r ≤ span.2 := by
        simp only [gridKey_inj hc hc']
        constructor
        · rintro ⟨k, hk, rfl, rfl⟩
          omega
        · rintro ⟨rfl, htop, hbottom⟩
          exact ⟨r - (max 0 span.1).toNat, by omega, rfl, by omega⟩
      simp only [Mem.read_hits hm h hinj, hrows]

/-- R97: a larger code stands no lower on the grid. -/
theorem gridRow_antitone {a b : Nat} (h : a ≤ b) (d p : Int) : gridRow b d p ≤ gridRow a d p := by
  unfold gridRow
  omega

/-- The largest of some codes is one of them, and none is above it. -/
theorem maxCode_spec {codes : List Byte} (hne : codes ≠ []) :
    (∃ b ∈ codes, b.toNat = maxCode codes) ∧ ∀ b ∈ codes, b.toNat ≤ maxCode codes := by
  have hmax : (0 :: codes.map BitVec.toNat).max? = some (maxCode codes) := by
    rw [List.max?_cons', List.foldl_map]; rfl
  obtain ⟨hmem, hle⟩ := List.max?_eq_some_iff.mp hmax
  have hle' : ∀ b ∈ codes, b.toNat ≤ maxCode codes := fun b hb =>
    hle _ (List.mem_cons_of_mem _ (List.mem_map_of_mem hb))
  refine ⟨?_, hle'⟩
  rcases List.mem_cons.mp hmem with hzero | hcode
  · obtain ⟨b, hb⟩ := List.exists_mem_of_ne_nil _ hne
    have := hle' b hb
    exact ⟨b, hb, by omega⟩
  · exact List.mem_map.mp hcode

/-- The smallest of some codes is one of them, and none is below it. -/
theorem minCode_spec {codes : List Byte} (hne : codes ≠ []) :
    (∃ b ∈ codes, b.toNat = minCode codes) ∧ ∀ b ∈ codes, minCode codes ≤ b.toNat := by
  have hmin : (255 :: codes.map BitVec.toNat).min? = some (minCode codes) := by
    rw [List.min?_cons', List.foldl_map]; rfl
  obtain ⟨hmem, hle⟩ := List.min?_eq_some_iff.mp hmin
  have hle' : ∀ b ∈ codes, minCode codes ≤ b.toNat := fun b hb =>
    hle _ (List.mem_cons_of_mem _ (List.mem_map_of_mem hb))
  refine ⟨?_, hle'⟩
  rcases List.mem_cons.mp hmem with htop | hcode
  · obtain ⟨b, hb⟩ := List.exists_mem_of_ne_nil _ hne
    have := hle' b hb
    exact ⟨b, hb, by omega⟩
  · exact List.mem_map.mp hcode

/-- R98 step 1: the own span runs from the least to the greatest row of the codes. -/
theorem ownSpan_eq {codes : List Byte} {d p hi lo : Int} (hhi : ∃ b ∈ codes, gridRow b.toNat d p = hi)
    (hlo : ∃ b ∈ codes, gridRow b.toNat d p = lo)
    (hall : ∀ b ∈ codes, hi ≤ gridRow b.toNat d p ∧ gridRow b.toNat d p ≤ lo) : ownSpan codes d p = (hi, lo) := by
  obtain ⟨bHi, hbHi, rfl⟩ := hhi
  obtain ⟨bLo, hbLo, rfl⟩ := hlo
  have hne := List.ne_nil_of_mem hbHi
  obtain ⟨⟨x, hx, ex⟩, hmax⟩ := maxCode_spec hne
  obtain ⟨⟨y, hy, ey⟩, hmin⟩ := minCode_spec hne
  have hx' := (hall x hx).1
  have hy' := (hall y hy).2
  rw [ex] at hx'
  rw [ey] at hy'
  exact Prod.ext (le_antisymm (gridRow_antitone (hmax _ hbHi) d p) hx')
    (le_antisymm hy' (gridRow_antitone (hmin _ hbLo) d p))

theorem connect_above {hi lo pHi : Int} (pLo : Int) (h : lo < pHi - 1) :
    connect (hi, lo) (some (pHi, pLo)) = (hi, pHi - 1) := if_pos h

theorem connect_below {hi lo pHi pLo : Int} (h : pHi - 1 ≤ lo) (h' : pLo + 1 < hi) :
    connect (hi, lo) (some (pHi, pLo)) = (pLo + 1, lo) := (if_neg h.not_gt).trans (if_pos h')

theorem connect_meeting {hi lo pHi pLo : Int} (h : pHi - 1 ≤ lo) (h' : hi ≤ pLo + 1) :
    connect (hi, lo) (some (pHi, pLo)) = (hi, lo) := (if_neg h.not_gt).trans (if_neg h'.not_gt)

/-! ### A column of one channel (R95 to R100) -/

/-- The row of a channel's sample at a record index, with the pass's d and P (R95, R97). -/
def Pass.rowAt (p : Pass) (cap : Cap) (f : Filed) (ch : Channel) (r : Nat) : Int :=
  gridRow (cap.sample p.seg f ch r).toNat (p.d.get ch) (p.p.get ch)

/-- The own span of the pass's next column (R98 step 1); in DOTS style both ends are the dot (R100). -/
def Pass.own (p : Pass) (cap : Cap) (f : Filed) (ch : Channel) : Int × Int :=
  ownSpan (cap.columnCodes p f ch) (p.d.get ch) (p.p.get ch)

/-- The rows that the pass's next column hits, before they are cut to the grid (R98 step 2, R100). -/
def Pass.hitSpan (p : Pass) (cap : Cap) (f : Filed) (ch : Channel) : Int × Int :=
  if p.style = 0 then connect (p.own cap f ch) (if p.next = 0 then none else p.span.get ch) else p.own cap f ch

theorem Pass.drawChannel_eq (p : Pass) (cap : Cap) (f : Filed) (m : Mem) (ch : Channel) :
    p.drawChannel cap f m ch = (drawSpan m p.h p.next (p.hitSpan cap f ch),
      if p.style = 0 then some (p.own cap f ch) else none) := by
  simp only [Pass.drawChannel, Pass.hitSpan, Pass.own]
  split <;> rfl

/-- R98 step 1: in ENVELOPE style the own span is that of every sample the column covers. -/
theorem Pass.own_envelope {p : Pass} {cap : Cap} {f : Filed} {ch : Channel} {hi lo : Int} (hstyle : p.style = 0)
    (hhi : ∃ k, k < p.columnCount p.next ∧ p.rowAt cap f ch (p.columnStart p.next + k) = hi)
    (hlo : ∃ k, k < p.columnCount p.next ∧ p.rowAt cap f ch (p.columnStart p.next + k) = lo)
    (hall : ∀ k, k < p.columnCount p.next → hi ≤ p.rowAt cap f ch (p.columnStart p.next + k)
      ∧ p.rowAt cap f ch (p.columnStart p.next + k) ≤ lo) : p.own cap f ch = (hi, lo) := by
  unfold Pass.own Cap.columnCodes
  rw [if_pos hstyle]
  refine ownSpan_eq ?_ ?_ ?_
  · simpa [Pass.rowAt] using hhi
  · simpa [Pass.rowAt] using hlo
  · simpa [Pass.rowAt] using hall

/-- R100: in DOTS style the own span is the row of the first sample. -/
theorem Pass.own_dots {p : Pass} (hstyle : p.style ≠ 0) (cap : Cap) (f : Filed) (ch : Channel) :
    p.own cap f ch = (p.rowAt cap f ch (p.columnStart p.next), p.rowAt cap f ch (p.columnStart p.next)) := by
  unfold Pass.own Cap.columnCodes
  rw [if_neg hstyle]
  refine ownSpan_eq ?_ ?_ ?_ <;> simp [Pass.rowAt]

theorem Pass.hitSpan_dots {p : Pass} (hstyle : p.style ≠ 0) (cap : Cap) (f : Filed) (ch : Channel) :
    p.hitSpan cap f ch = (p.rowAt cap f ch (p.columnStart p.next), p.rowAt cap f ch (p.columnStart p.next)) :=
  (if_neg hstyle).trans (Pass.own_dots hstyle cap f ch)

theorem Pass.hitSpan_first {p : Pass} (hstyle : p.style = 0) (hfirst : p.next = 0) (cap : Cap) (f : Filed)
    (ch : Channel) : p.hitSpan cap f ch = p.own cap f ch := by
  simp only [Pass.hitSpan, hstyle, hfirst, if_true, connect]

theorem Pass.hitSpan_later {p : Pass} (hstyle : p.style = 0) (hlater : p.next ≠ 0) (cap : Cap) (f : Filed)
    (ch : Channel) : p.hitSpan cap f ch = connect (p.own cap f ch) (p.span.get ch) := by
  simp only [Pass.hitSpan, hstyle, if_true, if_neg hlater]

/-! ### A column of every channel (R102) -/

theorem Pass.drawColumn_map (p : Pass) (cap : Cap) (f : Filed) (maps : Quad Mem) (ch : Channel) :
    (p.drawColumn cap f maps).2.get ch
      = if p.drawn.get ch then (drawSpan (maps.get ch) p.h p.next (p.hitSpan cap f ch)).map else maps.get ch := by
  simp only [Pass.drawColumn, Quad.get_map, Quad.get_of, Pass.drawChannel_eq]
  split <;> rfl

/-- R99 to R102: a column hits a count just where its channel is drawn, in its own column and in the rows of the span. -/
theorem Pass.drawColumn_read {p : Pass} (hp : p.next < 640) (cap : Cap) (f : Filed) {maps : Quad Mem} {ch : Channel}
    (hm : (maps.get ch).wf = true) {c r : Nat} (hc : c < 640) (hr : r < 400) :
    ((p.drawColumn cap f maps).2.get ch).read (gridKey c r)
      = if p.drawn.get ch = true ∧ c = p.next ∧ (p.hitSpan cap f ch).1 ≤ r ∧ r ≤ (p.hitSpan cap f ch).2 then
          hitCount p.h ((maps.get ch).read (gridKey c r))
        else (maps.get ch).read (gridKey c r) := by
  rw [Pass.drawColumn_map]
  by_cases hd : p.drawn.get ch = true
  · rw [if_pos hd, drawSpan_read hm p.h hp hc hr]
    simp only [hd, true_and]
  · rw [if_neg hd, if_neg fun h => hd h.1]

/-- R98: a drawn channel's own span is kept for the next column. -/
theorem Pass.drawColumn_span {p : Pass} (hstyle : p.style = 0) (cap : Cap) (f : Filed) (maps : Quad Mem) {ch : Channel}
    (hd : p.drawn.get ch = true) : (p.drawColumn cap f maps).1.span.get ch = some (p.own cap f ch) := by
  simp only [Pass.drawColumn, Quad.get_map, Quad.get_of, Pass.drawChannel_eq, if_pos hd, if_pos hstyle]

@[simp] theorem Quad.get_union (a b : ChSet) (ch : Channel) : (Quad.union a b).get ch = (a.get ch || b.get ch) := by
  cases ch <;> rfl

@[simp] theorem Quad.get_inter (a b : ChSet) (ch : Channel) : (a.inter b).get ch = (a.get ch && b.get ch) := by
  cases ch <;> rfl

/-- R99, R100: findings accumulate over a pass. -/
theorem Pass.drawColumn_keeps_findings (p : Pass) (cap : Cap) (f : Filed) (maps : Quad Mem) (ch : Channel) :
    (p.above.get ch = true → (p.drawColumn cap f maps).1.above.get ch = true)
    ∧ (p.below.get ch = true → (p.drawColumn cap f maps).1.below.get ch = true) := by
  constructor <;> intro h <;> simp only [Pass.drawColumn, Quad.get_union, h, Bool.true_or]

/-- The counts of column `c` in the map `m'`, against those of `m`: one hit of size `h` in the rows `on`, and in no
other. -/
def ColumnHits (m m' : Mem) (h c : Nat) (on : Nat → Prop) : Prop :=
  ∀ r, r < 400 → (on r → (m'.read (gridKey c r)).toNat = min 255 ((m.read (gridKey c r)).toNat + h))
    ∧ (¬ on r → m'.read (gridKey c r) = m.read (gridKey c r))

theorem ColumnHits.congr {m m' : Mem} {h c : Nat} {on on' : Nat → Prop} (hits : ColumnHits m m' h c on)
    (heq : ∀ r, on' r ↔ on r) : ColumnHits m m' h c on' := fun r hr => by
  rw [heq r]
  exact hits r hr

/-- R101: a drawn channel's map is hit in the rows of its span. -/
theorem Pass.drawColumn_hits {p : Pass} (hp : p.next < 640) {cap : Cap} {f : Filed} {maps : Quad Mem} {ch : Channel}
    (hm : (maps.get ch).wf = true) (hd : p.drawn.get ch = true) {hi lo : Int} (hspan : p.hitSpan cap f ch = (hi, lo)) :
    ColumnHits (maps.get ch) ((p.drawColumn cap f maps).2.get ch) p.h p.next fun r => hi ≤ r ∧ r ≤ lo := by
  intro r hr
  rw [Pass.drawColumn_read hp cap f hm hp hr]
  simp only [hd, hspan, true_and]
  constructor
  · intro hon
    rw [if_pos hon, hitCount_toNat]
  · intro hoff
    rw [if_neg hoff]

/-! ### The end of a pass (R89, R93, R103, R104) -/

theorem Cap.lt_length_of_seg_complete {cap : Cap} {i : Nat} {f : Filed} (h : cap.seg i = .complete f) :
    i < cap.segs.length := by
  by_contra hi
  rw [Cap.seg, List.getD_eq_default _ _ (not_lt.mp hi)] at h
  cases h

theorem Cap.seg_putSeg {cap : Cap} {i : Nat} (hi : i < cap.segs.length) (x : Segment) (j : Nat) :
    (cap.putSeg i x).seg j = if j = i then x else cap.seg j := by
  by_cases hj : j = i
  · subst hj
    simp [Cap.seg, Cap.putSeg, hi]
  · simp [Cap.seg, Cap.putSeg, hj, List.getD_eq_getElem?_getD, List.getElem?_set_ne (Ne.symm hj)]

/-- R89: an examination of the memory leaves segments and history as they are. -/
theorem State.examineMemory_seg (s : State) (i : Nat) : s.examineMemory.cap.seg i = s.cap.seg i := by
  unfold State.examineMemory
  split <;> rfl

theorem State.examineMemory_history (s : State) : s.examineMemory.cap.history = s.cap.history := by
  unfold State.examineMemory
  split <;> rfl

/-- R93: an examination changes nothing of REND but the pass. -/
theorem State.examineDraw_rend (s : State) : ∃ p, s.examineDraw.rend = { s.rend with pass := p } := by
  unfold State.examineDraw State.askDraw
  split
  · split
    · exact ⟨_, rfl⟩
    · exact ⟨_, rfl⟩
  · exact ⟨_, rfl⟩

/-- R93: with nothing newer than the last entry drawn in the history, REND begins no pass. -/
theorem State.examineDraw_of_none_newer {s : State} {last : Nat} (hlast : s.rend.lastDrawn = some last)
    (hold : ∀ i f, s.cap.history.getLast? = some i → s.cap.seg i = .complete f → f.seq ≤ last) : s.examineDraw = s := by
  have hnone : s.drawNamed = none := by
    unfold State.drawNamed
    split
    · rw [Option.filter_eq_none_iff]
      intro i hi
      split
      · next f hf => simpa [newerThan, hlast] using hold i f hi hf
      · exact Bool.false_ne_true
    · rfl
  rw [State.examineDraw, hnone]

/-- R103, R104: what REND holds at the end of a pass; the pass in flight is the one that R93 may begin. -/
theorem State.endPass_rend (s : State) (p : Pass) : ∃ q, (s.endPass p).rend
    = ⟨s.rend.maps, q, some p.seq, p.drawn.inter p.above, p.drawn.inter p.below⟩ := by
  obtain ⟨q, hq⟩ := State.examineDraw_rend (State.examineMemory ((s.releaseHold true p.seg).setRend
    { (s.releaseHold true p.seg).rend with
      pass := none, lastDrawn := some p.seq, above := p.drawn.inter p.above, below := p.drawn.inter p.below }))
  exact ⟨q, by simpa [State.endPass] using hq⟩

/-- R103: the pass that has ended is the last one drawn. -/
theorem State.endPass_lastDrawn (s : State) (p : Pass) : (s.endPass p).rend.lastDrawn = some p.seq := by
  obtain ⟨q, hq⟩ := s.endPass_rend p
  rw [hq]

/-- R104: the marks are the findings of the channels drawn. -/
theorem State.endPass_marks (s : State) (p : Pass) (ch : Channel) :
    (s.endPass p).rend.above.get ch = (p.drawn.get ch && p.above.get ch)
    ∧ (s.endPass p).rend.below.get ch = (p.drawn.get ch && p.below.get ch) := by
  obtain ⟨q, hq⟩ := s.endPass_rend p
  rw [hq]
  exact ⟨Quad.get_inter _ _ _, Quad.get_inter _ _ _⟩

/-- R81: with no ACQ waiting, the release of a DRAW hold changes the segment alone. -/
theorem State.releaseHold_draw {s : State} {i : Nat} {f : Filed} (hseg : s.cap.seg i = .complete f)
    (hwait : s.cap.waiting = false) :
    s.releaseHold true i = s.setCap (s.cap.putSeg i (.complete { f with draw := false })) := by
  simp [State.releaseHold, State.dropHold, hseg, hwait]

/-- R103: with no ACQ waiting, the end of a pass leaves LINK and ACQ as they are. -/
theorem State.endPass_link_acq {s : State} {p : Pass} {f : Filed} (hseg : s.cap.seg p.seg = .complete f)
    (hwait : s.cap.waiting = false) : (s.endPass p).link = s.link ∧ (s.endPass p).acq = s.acq := by
  simp [State.endPass, State.releaseHold_draw hseg hwait]

/-- R103: with no ACQ waiting and nothing newer to draw, no pass follows, and the segment is without its DRAW hold. -/
theorem State.endPass_of_none_newer {s : State} {p : Pass} {f : Filed} (hseg : s.cap.seg p.seg = .complete f)
    (hwait : s.cap.waiting = false)
    (hold : ∀ i g, s.cap.history.getLast? = some i → s.cap.seg i = .complete g → g.seq ≤ p.seq) :
    (s.endPass p).rend.pass = none ∧ (s.endPass p).cap.seg p.seg = .complete { f with draw := false } := by
  have hput := Cap.seg_putSeg (Cap.lt_length_of_seg_complete hseg) (.complete { f with draw := false })
  unfold State.endPass
  rw [State.releaseHold_draw hseg hwait, State.examineDraw_of_none_newer (last := p.seq)]
  · exact ⟨by simp, by simp [State.examineMemory_seg, hput]⟩
  · simp
  · intro i g hi hg
    simp only [State.examineMemory_seg, State.examineMemory_history, State.setRend_cap, State.setCap_cap, hput] at hi hg
    split at hg
    · next heq =>
      cases hg
      exact hold i f hi (heq ▸ hseg)
    · exact hold i g hi hg

/-! ### DRAW_COLUMN -/

/-- The state after a column's hits, before a last column ends the pass (R102). -/
def State.columnDrawn (s : State) (p : Pass) (f : Filed) : State :=
  s.setRend { s.rend with
    pass := some (p.drawColumn s.cap f s.rend.maps).1, maps := (p.drawColumn s.cap f s.rend.maps).2 }

/-- R95, R102, R103: a column of a pass whose segment is COMPLETE and within the capture memory. -/
theorem exec_drawColumn {s : State} {p : Pass} {f : Filed} (hpass : s.rend.pass = some p)
    (hpower : s.cap.power = .active) (hseg : s.cap.seg p.seg = .complete f)
    (hfits : s.cap.fits p.seg f.present f.q = true) :
    exec .drawColumn s = .next (if 640 ≤ p.next + 1 then
      (s.columnDrawn p f).endPass (p.drawColumn s.cap f s.rend.maps).1 else s.columnDrawn p f) := by
  change execDrawColumn s = _
  simp only [execDrawColumn, hpass, hpower, hseg, hfits, ne_eq, not_true_eq_false, if_false, if_true]
  rfl

/-- The end of a pass keeps the maps as its last column leaves them. -/
theorem State.columnDrawn_maps (s : State) (p : Pass) (f : Filed) :
    (if 640 ≤ p.next + 1 then (s.columnDrawn p f).endPass (p.drawColumn s.cap f s.rend.maps).1
      else s.columnDrawn p f).rend.maps = (p.drawColumn s.cap f s.rend.maps).2 := by
  split
  · obtain ⟨q, hq⟩ := (s.columnDrawn p f).endPass_rend (p.drawColumn s.cap f s.rend.maps).1
    rw [hq]
    rfl
  · rfl

/-- Settles O46: the column's hits are those of `Pass.drawColumn_hits`, its end is that of R103 and R104. -/
theorem drawColumn : Obligations.DrawColumn := by
  intro s p f hpass hpower hseg hfits hnext hwf first count code row
  refine ⟨_, exec_drawColumn hpass hpower hseg hfits, ?frame, ?hits, ?more, ?last⟩
  case frame =>
    intro ch c r hc hr hother
    rw [State.columnDrawn_maps]
    refine (Pass.drawColumn_read hnext s.cap f (hwf ch) hc hr).trans (if_neg ?_)
    rintro ⟨hd, hcol, -⟩
    rcases hother with hne | hoff
    · exact hne hcol
    · exact Bool.false_ne_true (hoff.symm.trans hd)
  case hits =>
    intro ch hd
    rw [State.columnDrawn_maps]
    have hits {hi lo : Int} (hspan : p.hitSpan s.cap f ch = (hi, lo)) :=
      Pass.drawColumn_hits hnext (hwf ch) hd hspan
    refine ⟨fun hdots => ?dots, fun henv hi lo hhi hlo hall => ?envelope⟩
    case dots =>
      have hspan : p.hitSpan s.cap f ch = (row ch first, row ch first) := Pass.hitSpan_dots hdots s.cap f ch
      exact (hits hspan).congr fun r => by omega
    case envelope =>
      have hown : p.own s.cap f ch = (hi, lo) := Pass.own_envelope henv hhi hlo hall
      refine ⟨fun hfirst => hits ?_, fun pHi pLo hlater hprev => ?_, fun hmore => ?_⟩
      · rw [Pass.hitSpan_first henv hfirst, hown]
      · have hspan := Pass.hitSpan_later henv hlater s.cap f ch
        rw [hown, hprev] at hspan
        exact ⟨fun h => hits (hspan.trans (connect_above pLo h)), fun h h' => hits (hspan.trans (connect_below h h')),
          fun h h' => hits (hspan.trans (connect_meeting h h'))⟩
      · rw [if_neg (by omega)]
        exact ⟨_, rfl, by rw [Pass.drawColumn_span henv s.cap f s.rend.maps hd, hown]⟩
  case more =>
    intro hmore
    rw [if_neg (by omega)]
    exact ⟨rfl, rfl, rfl, rfl, _, rfl, rfl⟩
  case last =>
    intro hlast hwait
    rw [if_pos (by omega)]
    have hdrawn : (p.drawColumn s.cap f s.rend.maps).1.drawn = p.drawn := rfl
    have hmarks := (s.columnDrawn p f).endPass_marks (p.drawColumn s.cap f s.rend.maps).1
    have hseg' : (s.columnDrawn p f).cap.seg (p.drawColumn s.cap f s.rend.maps).1.seg = .complete f := hseg
    obtain ⟨hlink, hacq⟩ := State.endPass_link_acq hseg' hwait
    refine ⟨State.endPass_lastDrawn _ _, fun ch hoff => ?_, fun ch hon => ?_, State.endPass_of_none_newer hseg' hwait,
      hlink, hacq, State.endPass_sett _ _, State.endPass_chans _ _, State.endPass_disp _ _⟩
    · simp only [hmarks ch, hdrawn, hoff, Bool.false_and, and_self]
    · simpa only [hmarks ch, hdrawn, hon, Bool.true_and] using p.drawColumn_keeps_findings s.cap f s.rend.maps ch

end Sys2Proof.Machine
end

section
/-! The drawing commands and the display settings (R117 to R122, R133): what a list of pixels makes of a plane, which
pixels a rectangle and an image set, and the ways through the overlay command queue. -/

namespace Sys2Proof.Machine

/-! ### Painting a plane (R117) -/

/-- An address that no pixel of the list has keeps its byte. -/
theorem Mem.read_paint_of_untouched {a : Nat} : ∀ {ps : List (Nat × Byte)} (m : Mem), (∀ p ∈ ps, p.1 ≠ a) →
    (m.paint ps).read a = m.read a
  | [], _, _ => rfl
  | p :: ps, m, h => by
    obtain ⟨hp, hps⟩ := List.forall_mem_cons.mp h
    exact (Mem.read_paint_of_untouched (m.write p.1 p.2) hps).trans (Mem.read_write_other hp.symm p.2 m)

/-- An address that the list sets, always to the same byte, reads as that byte. -/
theorem Mem.read_paint_of_set {a : Nat} {b : Byte} : ∀ {ps : List (Nat × Byte)} {m : Mem}, m.wf = true →
    (∃ p ∈ ps, p.1 = a) → (∀ p ∈ ps, p.1 = a → p.2 = b) → (m.paint ps).read a = b
  | [], _, _, hset, _ => by simp at hset
  | p :: ps, m, hm, hset, hval => by
    obtain ⟨hp, hps⟩ := List.forall_mem_cons.mp hval
    change ((m.write p.1 p.2).paint ps).read a = b
    by_cases hlater : ∃ q ∈ ps, q.1 = a
    · exact Mem.read_paint_of_set (Mem.wf_write hm _ _) hlater hps
    · have hhead : p.1 = a := by simpa [hlater] using hset
      rw [Mem.read_paint_of_untouched _ fun q hq e => hlater ⟨q, hq, e⟩, ← hp hhead, ← hhead, Mem.read_write hm]

/-! ### Where pixels are kept (R117) -/

theorem pixelKey_inj {x x' y y' : Nat} (hx : x < 800) (hx' : x' < 800) :
    pixelKey x y = pixelKey x' y' ↔ x = x' ∧ y = y' := by
  unfold pixelKey
  omega

theorem screenKey_eq_some_pixelKey {px py : Nat} (hpx : px < 800) (hpy : py < 480) {x y : Int} :
    screenKey x y = some (pixelKey px py) ↔ x = px ∧ y = py := by
  unfold screenKey
  split
  · rw [Option.some_inj, pixelKey_inj (by omega) hpx]
    omega
  · simp only [reduceCtorEq, false_iff]
    omega

theorem mem_screenSpan {x : Int} {w limit n : Nat} : n ∈ screenSpan x w limit ↔ n < limit ∧ x ≤ n ∧ n < x + w := by
  simp only [screenSpan, List.mem_map, List.mem_range]
  constructor
  · rintro ⟨k, hk, rfl⟩
    omega
  · intro hn
    exact ⟨n - (max 0 x).toNat, by omega, by omega⟩

/-! ### FILL_RECT's pixels (R120) -/

theorem mem_rectPixels {x y : Int} {w h : Nat} {index : Byte} {p : Nat × Byte} : p ∈ rectPixels x y w h index ↔
    ∃ py ∈ screenSpan y h 480, ∃ px ∈ screenSpan x w 800, (pixelKey px py, index) = p := by
  simp only [rectPixels, List.mem_flatMap, List.mem_map]

/-- R120: the pixels of the rectangle on the screen take the index, and every other pixel stands. -/
theorem Mem.read_paint_rect {m : Mem} (hm : m.wf = true) {px py : Nat} (hpx : px < 800) (hpy : py < 480) (x y : Int)
    (w h : Nat) (index : Byte) : (m.paint (rectPixels x y w h index)).read (pixelKey px py)
      = if x ≤ px ∧ px < x + w ∧ y ≤ py ∧ py < y + h then index else m.read (pixelKey px py) := by
  split
  · next hin =>
    refine Mem.read_paint_of_set hm ⟨(pixelKey px py, index), mem_rectPixels.mpr ?_, rfl⟩ fun p hp _ => ?_
    · exact ⟨py, mem_screenSpan.mpr (by omega), px, mem_screenSpan.mpr (by omega), rfl⟩
    · obtain ⟨_, _, _, _, rfl⟩ := mem_rectPixels.mp hp
      rfl
  · next hout =>
    refine Mem.read_paint_of_untouched m fun p hp hkey => hout ?_
    obtain ⟨qy, hqy, qx, hqx, rfl⟩ := mem_rectPixels.mp hp
    rw [mem_screenSpan] at hqx hqy
    obtain ⟨rfl, rfl⟩ := (pixelKey_inj hqx.1 hpx).mp hkey
    exact ⟨hqx.2.1, hqx.2.2, hqy.2.1, hqy.2.2⟩

/-! ### PUT_PIXELS' pixels (R122) -/

/-- The colour indices of an image in row order: its runs, laid out. -/
def runImage (runs : List (Nat × Byte)) : List Byte := runs.flatMap fun r => List.replicate r.1 r.2

theorem runImage_length (runs : List (Nat × Byte)) : (runImage runs).length = runsTotal runs := by
  simp only [runImage, runsTotal, List.length_flatMap, List.length_replicate]

/-- A pixel of the image is drawn where its place in the rectangle lies on the screen. -/
theorem mem_imagePixels {x y : Int} {w : Nat} {runs : List (Nat × Byte)} {a : Nat} {b : Byte} :
    (a, b) ∈ imagePixels x y w runs ↔
      ∃ k, (runImage runs)[k]? = some b ∧ screenKey (x + (k % w : Nat)) (y + (k / w : Nat)) = some a := by
  simp only [imagePixels, runImage, List.mem_filterMap, Prod.exists, List.mem_zipIdx_iff_getElem?, Option.map_eq_some_iff,
    Prod.mk.injEq]
  constructor
  · rintro ⟨_, k, hk, _, ha, rfl, rfl⟩
    exact ⟨k, hk, ha⟩
  · rintro ⟨k, hk, ha⟩
    exact ⟨b, k, hk, a, ha, rfl, rfl⟩

/-- R122: a pixel on the screen takes the index of its place in the rectangle, counted in row order. -/
theorem Mem.read_paint_image {m : Mem} (hm : m.wf = true) {px py : Nat} (hpx : px < 800) (hpy : py < 480) {x y : Int}
    {w h : Nat} {runs : List (Nat × Byte)} (hlen : (runImage runs).length = w * h) {i j : Nat} (hi : i < w) (hj : j < h)
    (hx : (px : Int) = x + i) (hy : (py : Int) = y + j) :
    (m.paint (imagePixels x y w runs)).read (pixelKey px py) = (runImage runs).getD (j * w + i) 0 := by
  have hplace : j * w + i < (runImage runs).length := by nlinarith
  have hcol : (j * w + i) % w = i := by rw [Nat.mul_add_mod_self_right, Nat.mod_eq_of_lt hi]
  have hrow : (j * w + i) / w = j := by rw [Nat.mul_comm, Nat.mul_add_div (by omega), Nat.div_eq_of_lt hi, Nat.add_zero]
  have hdrawn : (pixelKey px py, (runImage runs).getD (j * w + i) 0) ∈ imagePixels x y w runs := by
    refine mem_imagePixels.mpr ⟨j * w + i, ?_, (screenKey_eq_some_pixelKey hpx hpy).mpr ?_⟩
    · rw [List.getD_eq_getElem _ _ hplace, List.getElem?_eq_getElem hplace]
    · rw [hcol, hrow]
      exact ⟨hx.symm, hy.symm⟩
  refine Mem.read_paint_of_set hm ⟨_, hdrawn, rfl⟩ ?_
  rintro ⟨a, b⟩ hp rfl
  obtain ⟨k, hk, hkey⟩ := mem_imagePixels.mp hp
  obtain ⟨hkx, hky⟩ := (screenKey_eq_some_pixelKey hpx hpy).mp hkey
  have hsame : k = j * w + i := by
    have hmod : k % w = i := by omega
    have hdiv : k / w = j := by omega
    rw [← hmod, ← hdiv, Nat.div_add_mod']
  rw [← hsame, List.getD_eq_getElem?_getD, hk]
  rfl

/-- R122: a pixel outside the rectangle stands. -/
theorem Mem.read_paint_image_outside (m : Mem) {px py : Nat} (hpx : px < 800) (hpy : py < 480) {x y : Int} {w h : Nat}
    {runs : List (Nat × Byte)} (hlen : (runImage runs).length = w * h)
    (hout : (px : Int) < x ∨ x + w ≤ px ∨ (py : Int) < y ∨ y + h ≤ py) :
    (m.paint (imagePixels x y w runs)).read (pixelKey px py) = m.read (pixelKey px py) := by
  refine Mem.read_paint_of_untouched m ?_
  rintro ⟨a, b⟩ hp rfl
  obtain ⟨k, hk, hkey⟩ := mem_imagePixels.mp hp
  obtain ⟨hkx, hky⟩ := (screenKey_eq_some_pixelKey hpx hpy).mp hkey
  have hplace : k < w * h := hlen ▸ (List.getElem?_eq_some_iff.mp hk).1
  have hcol : k % w < w := Nat.mod_lt k (Nat.pos_of_mul_pos_right (Nat.zero_lt_of_lt hplace))
  have hrow : k / w < h := Nat.div_lt_of_lt_mul hplace
  generalize k % w = i, k / w = j at hkx hky hcol hrow
  omega

/-! ### A drawing command changes the back plane alone (R119) -/

@[simp] theorem Disp.draw_front (d : Disp) (c : Overlay) : (d.draw c).front = d.front := by
  cases h : d.frontA <;> simp [Disp.draw, Disp.putBack, Disp.front, h]

@[simp] theorem Disp.draw_back (d : Disp) (c : Overlay) : (d.draw c).back = d.back.paint c.pixels := by
  cases h : d.frontA <;> simp [Disp.draw, Disp.putBack, Disp.back, h]

theorem Disp.draw_planes (d : Disp) (c : Overlay) :
    d.draw c = { d with planeA := (d.draw c).planeA, planeB := (d.draw c).planeB } := by
  unfold Disp.draw Disp.putBack
  split <;> rfl

/-! ### The overlay command queue (R119) -/

/-- A display whose queue holds its commands back: behind a plane sync, or behind an END_BATCH that waits for a frame
event. -/
def Disp.holdsQueue (d : Disp) : Prop := d.sync = true ∨ (d.power.isLit = true ∧ ∃ g r, d.queue = .endBatch g :: r)

theorem State.queueOverlay_full {s : State} (h : 32 ≤ s.disp.queue.length) (c : Overlay) : s.queueOverlay c = none :=
  if_neg (by omega)

/-- A queue that holds its commands back only takes the new one in. -/
theorem State.queueOverlay_held {s : State} (h : s.disp.queue.length < 32) (hheld : s.disp.holdsQueue) (c : Overlay) :
    s.queueOverlay c = some (s.setDisp { s.disp with queue := s.disp.queue ++ [c] }) := by
  rw [State.queueOverlay, if_pos h, Option.some_inj]
  unfold State.pump
  split
  · rfl
  · next hsync =>
    obtain ⟨hlit, g, r, hq⟩ := hheld.resolve_left hsync
    simp [hq, State.pumpFrom, hlit]

theorem State.pumpFrom_drawing {c : Overlay} (hc : ∀ g, c ≠ .endBatch g) (s : State) (r : List Overlay) :
    s.pumpFrom (c :: r) = (s.setDisp (s.disp.draw c)).pumpFrom r := by
  cases c with
  | endBatch g => exact absurd rfl (hc g)
  | fillRect | putText | putPixels => rfl

/-- With plane sync idle a drawing command that stands alone leaves the queue and is carried out. -/
theorem State.pump_drawing {s : State} (hsync : s.disp.sync = false) {c : Overlay} (hq : s.disp.queue = [c])
    (hc : ∀ g, c ≠ .endBatch g) : s.pump = s.setDisp { s.disp.draw c with queue := [] } := by
  rw [State.pump, hsync, hq, State.pumpFrom_drawing hc]
  rfl

/-- With plane sync idle and nothing before it a drawing command is carried out at once. -/
theorem State.queueOverlay_idle {s : State} (hq : s.disp.queue = []) (hsync : s.disp.sync = false) {c : Overlay}
    (hc : ∀ g, c ≠ .endBatch g) : s.queueOverlay c = some (s.setDisp (s.disp.draw c)) := by
  have hroom : s.disp.queue.length < 32 := by simp [hq]
  have hempty : { ({ s.disp with queue := [c] } : Disp).draw c with queue := [] } = s.disp.draw c := by
    rw [← hq]
    unfold Disp.draw Disp.putBack
    split <;> rfl
  have hpump := State.pump_drawing (s := s.setDisp { s.disp with queue := [c] }) hsync rfl hc
  rw [State.queueOverlay, if_pos hroom, hq]
  exact congrArg some (hpump.trans (congrArg s.setDisp hempty))

/-! ### Taking a drawing command (R119, R181) -/

section Taking
variable {s : State} {k : ReqKind} {tag : Byte} {body : List Byte}

/-- A request whose length its own rule refuses is answered BAD_LENGTH (R181 step 2). -/
theorem State.request_badLength {owner : State → Result} (hrx : s.link.rx = .awaitingSync) (hused : s.link.used < 16)
    (hbad : k.badLength body = true) : s.request k tag body owner = .next (s.answered k tag [3]) :=
  State.request_refused (st := .badLength) hrx hused (if_pos hbad)

/-- An accepted request is of a length that its own rule takes. -/
theorem State.accepts_badLength (h : s.accepts k tag body) : k.badLength body = false := by
  obtain ⟨-, -, hcheck⟩ := h
  by_contra hbad
  rw [Link.check, if_pos (Bool.not_eq_false _ ▸ hbad)] at hcheck
  cases hcheck

/-- DISP's change and its reply to the request just entered. -/
theorem State.entered_setDisp_reply (h : s.accepts k tag body) (d : Disp) (reply : List Byte) :
    ((s.entered k tag).setDisp d).reply tag reply = (s.setDisp d).answered k tag reply :=
  State.reply_entered (s := s.setDisp d) reply (State.accepts_fresh h)

theorem State.takeDrawing_badValue (h : s.accepts k tag body) :
    (s.entered k tag).takeDrawing tag none = .next (s.answered k tag [4]) :=
  congrArg Host.Outcome.next (State.reply_entered _ (State.accepts_fresh h))

theorem State.takeDrawing_full (h : s.accepts k tag body) (hfull : 32 ≤ s.disp.queue.length) (c : Overlay) :
    (s.entered k tag).takeDrawing tag (some c) = .next (s.answered k tag [7]) := by
  rw [State.takeDrawing, State.queueOverlay_full (s := s.entered k tag) hfull]
  exact congrArg Host.Outcome.next (State.reply_entered _ (State.accepts_fresh h))

theorem State.takeDrawing_held (h : s.accepts k tag body) (hroom : s.disp.queue.length < 32) (hheld : s.disp.holdsQueue)
    (c : Overlay) : (s.entered k tag).takeDrawing tag (some c)
      = .next ((s.setDisp { s.disp with queue := s.disp.queue ++ [c] }).answered k tag [0]) := by
  rw [State.takeDrawing, State.queueOverlay_held (s := s.entered k tag) hroom hheld]
  exact congrArg Host.Outcome.next (State.entered_setDisp_reply h _ _)

theorem State.takeDrawing_idle (h : s.accepts k tag body) (hq : s.disp.queue = []) (hsync : s.disp.sync = false)
    {c : Overlay} (hc : ∀ g, c ≠ .endBatch g) :
    (s.entered k tag).takeDrawing tag (some c) = .next ((s.setDisp (s.disp.draw c)).answered k tag [0]) := by
  rw [State.takeDrawing, State.queueOverlay_idle (s := s.entered k tag) hq hsync hc]
  exact congrArg Host.Outcome.next (State.entered_setDisp_reply h _ _)

end Taking

/-! ### FILL_RECT and PUT_PIXELS (R120, R122) -/

theorem exec_fillRect (tag : Byte) (body : List Byte) (s : State) : exec (.fillRect tag body) s
    = s.request .fillRect tag body fun s => s.takeDrawing tag (fillRectArgs body) := rfl

theorem exec_putPixels (tag : Byte) (body : List Byte) (s : State) : exec (.putPixels tag body) s
    = s.request .putPixels tag body fun s => s.takeDrawing tag (putPixelsArgs body) := rfl

/-- R122: the runs of an accepted PUT_PIXELS cover its rectangle. -/
theorem runImage_length_of_accepts {s : State} {tag : Byte} {body : List Byte} (h : s.accepts .putPixels tag body) :
    (runImage (runsOf (body.drop 8))).length = pixelsW body * pixelsH body := by
  have hgood := State.accepts_badLength h
  simp only [ReqKind.badLength, Bool.or_eq_false_iff, bne_eq_false_iff_eq] at hgood
  obtain ⟨-, htotal⟩ := hgood
  rw [runImage_length, htotal]

theorem putPixelsArgs_eq_none {body : List Byte} (h : ∃ r ∈ runsOf (body.drop 8), 15 < r.2.toNat) :
    putPixelsArgs body = none :=
  if_pos (by simpa using h)

theorem putPixelsArgs_eq_some {body : List Byte} (h : ∀ r ∈ runsOf (body.drop 8), r.2.toNat ≤ 15) :
    putPixelsArgs body = some (.putPixels (ofLeSigned (slice body 0 2)) (ofLeSigned (slice body 2 2)) (pixelsW body)
      (pixelsH body) (runsOf (body.drop 8))) :=
  if_neg (by simpa using h)

/-- Settles O49: the ways through the queue are those of `takeDrawing`, the pixels those of `Mem.read_paint_rect` and
`Mem.read_paint_image`. -/
theorem fillRectAndPixels : Obligations.FillRectAndPixels := by
  intro s tag body
  refine ⟨fun hacc => ?fill, fun hacc => ?put, fun hrx hused => ⟨fun hlen => ?fillLength, fun hlen => ?putLength⟩⟩
  case fill =>
    intro x y w h index c
    have hexec : exec c s = _ := (exec_fillRect tag body s).trans (State.request_accepted hacc)
    refine ⟨fun hbig => ?_, fun hsmall => ?_⟩
    · have hargs : fillRectArgs body = none := if_pos hbig
      rw [hexec, hargs, State.takeDrawing_badValue hacc]
    · have hargs : fillRectArgs body = some (.fillRect x y w h index) := if_neg (by omega : ¬ 15 < index.toNat)
      rw [hexec, hargs]
      refine ⟨fun hfull => State.takeDrawing_full hacc hfull _,
        fun hroom hheld => State.takeDrawing_held hacc hroom hheld _,
        fun hq hsync hwf => ⟨_, State.takeDrawing_idle hacc hq hsync nofun, rfl, Disp.draw_planes _ _, ?_, ?_⟩⟩
      · exact Disp.draw_front _ _
      · intro px py hpx hpy
        rw [State.answered_disp, State.setDisp_disp, Disp.draw_back]
        exact Mem.read_paint_rect hwf hpx hpy x y w h index
  case put =>
    intro x y w h runs image c
    have hexec : exec c s = _ := (exec_putPixels tag body s).trans (State.request_accepted hacc)
    have himage : (runImage runs).length = w * h := runImage_length_of_accepts hacc
    refine ⟨fun hbig => ?_, fun hsmall => ?_⟩
    · rw [hexec, putPixelsArgs_eq_none hbig, State.takeDrawing_badValue hacc]
    · rw [hexec, putPixelsArgs_eq_some hsmall]
      refine ⟨fun hfull => State.takeDrawing_full hacc hfull _,
        fun hroom hheld => State.takeDrawing_held hacc hroom hheld _,
        fun hq hsync hwf => ⟨_, State.takeDrawing_idle hacc hq hsync nofun, rfl, himage, Disp.draw_planes _ _, ?_, ?_⟩⟩
      · exact Disp.draw_front _ _
      · intro px py hpx hpy
        rw [State.answered_disp, State.setDisp_disp, Disp.draw_back]
        exact ⟨fun i j hi hj hx hy => Mem.read_paint_image hwf hpx hpy himage hi hj hx hy,
          fun hout => Mem.read_paint_image_outside _ hpx hpy himage hout⟩
  case fillLength =>
    rw [exec_fillRect]
    exact State.request_badLength hrx hused (by simpa [ReqKind.badLength] using hlen)
  case putLength =>
    rw [exec_putPixels]
    refine State.request_badLength hrx hused ?_
    simp only [ReqKind.badLength, Bool.or_eq_true, decide_eq_true_eq, bne_iff_ne, or_assoc]
    exact hlen.imp_right (Or.imp_left (by omega))

/-! ### SET_PALETTE and SET_DISPLAY_TIMEOUTS (R118, R133) -/

theorem Power.isLit_iff (p : Power) : p.isLit = true ↔ p = .on ∨ p = .dim := by
  cases p <;> decide

/-- Bytes survive the way through the number they spell. -/
theorem leBytes_ofLe : ∀ bs : List Byte, leBytes bs.length (ofLe bs) = bs
  | [] => rfl
  | b :: bs => by
    have hb := b.isLt
    have hlow : BitVec.ofNat 8 (b.toNat + 256 * ofLe bs) = b :=
      BitVec.eq_of_toNat_eq (by rw [BitVec.toNat_ofNat]; omega)
    have hhigh : (b.toNat + 256 * ofLe bs) / 256 = ofLe bs := by omega
    simp only [List.length_cons, ofLe, leBytes, hlow, hhigh, leBytes_ofLe bs]

/-- R133: in ON and DIM the idle timer restarts. -/
theorem State.restartIdle_if_lit (s : State) : (if s.disp.power.isLit then s.restartIdle else s)
    = s.setDisp { s.disp with idle := if s.disp.power = .on ∨ s.disp.power = .dim then some 0 else s.disp.idle } := by
  simp only [Power.isLit_iff]
  split <;> rfl

theorem exec_setPalette (tag : Byte) (body : List Byte) (s : State) :
    exec (.setPalette tag body) s = execSetPalette tag body s := rfl

theorem exec_setDisplayTimeouts (tag : Byte) (body : List Byte) (s : State) :
    exec (.setDisplayTimeouts tag body) s = execSetDisplayTimeouts tag body s := rfl

/-- R118: SET_PALETTE on a state that accepts it. -/
theorem execSetPalette_accepted {s : State} {tag a b c d : Byte} (h : s.accepts .setPalette tag [a, b, c, d]) :
    execSetPalette tag [a, b, c, d] s = .next (if a.toNat = 0 ∨ 15 < a.toNat then s.answered .setPalette tag [4]
      else (s.setDisp { s.disp with palette := s.disp.palette.set (a.toNat - 1) ⟨b, c, d⟩ }).answered .setPalette
        tag [0]) := by
  rw [execSetPalette, State.request_accepted h]
  change (if a.toNat = 0 ∨ 15 < a.toNat then _ else _) = _
  split
  · exact congrArg Host.Outcome.next (State.reply_entered _ (State.accepts_fresh h))
  · exact congrArg Host.Outcome.next (State.entered_setDisp_reply h _ _)

/-- R133: SET_DISPLAY_TIMEOUTS on a state that accepts it. -/
theorem execSetDisplayTimeouts_accepted {s : State} {tag a b c d : Byte}
    (h : s.accepts .setDisplayTimeouts tag [a, b, c, d]) :
    execSetDisplayTimeouts tag [a, b, c, d] s = .next ((s.setDisp { s.disp with
      dimTimeout := ofLe [a, b], blankTimeout := ofLe [c, d]
      idle := if s.disp.power = .on ∨ s.disp.power = .dim then some 0 else s.disp.idle }).answered
        .setDisplayTimeouts tag [0, a, b, c, d]) := by
  have hab : leBytes 2 (ofLe [a, b]) = [a, b] := leBytes_ofLe [a, b]
  have hcd : leBytes 2 (ofLe [c, d]) = [c, d] := leBytes_ofLe [c, d]
  rw [execSetDisplayTimeouts, State.request_accepted h]
  dsimp only
  rw [State.restartIdle_if_lit, State.setDisp_setDisp, State.entered_setDisp_reply h]
  simp only [State.setDisp_disp, slice, List.take, List.drop, hab, hcd]
  rfl

/-- Settles O51: both requests store at once, by `execSetPalette_accepted` and `execSetDisplayTimeouts_accepted`. -/
theorem paletteAndTimeouts : Obligations.PaletteAndTimeouts := by
  intro s tag a b c d
  refine ⟨fun hacc => ?palette, fun hacc => ?timeouts, fun body hlen hrx hused => ?length⟩
  case palette =>
    rw [exec_setPalette, execSetPalette_accepted hacc]
    exact ⟨fun hbad => by rw [if_pos hbad], fun hlo hhi => by rw [if_neg (by omega)]⟩
  case timeouts =>
    have hword (lo hi : Byte) : ofLe [lo, hi] = lo.toNat + 256 * hi.toNat := by simp [ofLe]
    rw [exec_setDisplayTimeouts, execSetDisplayTimeouts_accepted hacc, hword, hword]
  case length =>
    have hpalette : ReqKind.setPalette.badLength body = true := bne_iff_ne.mpr hlen
    have htimeouts : ReqKind.setDisplayTimeouts.badLength body = true := bne_iff_ne.mpr hlen
    rw [exec_setPalette, exec_setDisplayTimeouts]
    exact ⟨State.request_badLength hrx hused hpalette, State.request_badLength hrx hused htimeouts⟩

end Sys2Proof.Machine
end

section
/-! The panel's bindings and lamps (R141, R145, R146, R151): which key action, knob target, lamp source and lamp state a
code names, and what the three requests that set them make of PANEL. -/

namespace Sys2Proof.Machine

/-! ### What the codes name (R141, R146, R151) -/

/-- R141: the codes that name no action, and the slots that SAVE_SLOT and RECALL_SLOT may not name. -/
theorem keyActionOf_eq_none_iff (code slot : Nat) : keyActionOf code slot = none ↔
    11 < code ∨ (code = 9 ∧ (slot = 0 ∨ 31 < slot)) ∨ (code = 10 ∧ 31 < slot) := by
  unfold keyActionOf
  split
  case h_10 | h_13 => grind
  all_goals simp

/-- R141: an action is named by its own code, together with the slot it carries. -/
theorem keyActionOf_code {slot : Nat} (act : KeyAction)
    (hsave : ∀ n, act = .saveSlot n → n = slot ∧ 1 ≤ n ∧ n ≤ 31)
    (hrecall : ∀ n, act = .recallSlot n → n = slot ∧ n ≤ 31) : keyActionOf act.code.toNat slot = some act := by
  cases act with
  | saveSlot n =>
    obtain ⟨rfl, hlo, hhi⟩ := hsave n rfl
    exact if_pos (by simp [hlo, hhi])
  | recallSlot n =>
    obtain ⟨rfl, hhi⟩ := hrecall n rfl
    exact if_pos hhi
  | restore ch => cases ch <;> rfl
  | _ => rfl

theorem Channel.ofNum?_eq_none_iff (n : Nat) : Channel.ofNum? n = none ↔ n = 0 ∨ 4 < n := by
  unfold Channel.ofNum?
  split
  case h_5 => grind
  all_goals simp

/-- R146: the codes that name no target, and the numbers that name no channel to CHn_POSITION and CHn_SCALE. -/
theorem encTargetOf_eq_none_iff (code ch : Nat) : encTargetOf code ch = none ↔
    8 < code ∨ ((code = 3 ∨ code = 4) ∧ (ch = 0 ∨ 4 < ch)) := by
  unfold encTargetOf
  split
  case h_4 | h_5 => simp [Channel.ofNum?_eq_none_iff]
  case h_10 => grind
  all_goals simp

/-- R146: a target is named by its own code, together with the number of the channel it carries. -/
theorem encTargetOf_code {n : Nat} (t : EncTarget) (hch : ∀ ch, t = .position ch ∨ t = .scale ch → ch.num = n) :
    encTargetOf t.code.toNat n = some t := by
  cases t with
  | position ch =>
    obtain rfl := hch ch (.inl rfl)
    exact congrArg (Option.map EncTarget.position) (Channel.ofNum?_num ch)
  | scale ch =>
    obtain rfl := hch ch (.inr rfl)
    exact congrArg (Option.map EncTarget.scale) (Channel.ofNum?_num ch)
  | _ => rfl

theorem lampSourceOf_eq_none_iff (code : Nat) : lampSourceOf code = none ↔ 14 < code := by
  unfold lampSourceOf
  split
  case h_16 => grind
  all_goals simp

theorem lampSourceOf_code (src : LampSource) : lampSourceOf src.code.toNat = some src := by
  cases src with
  | chanOn ch | chanProtected ch => cases ch <;> rfl
  | _ => rfl

theorem lampStateOf_eq_none_iff (code : Nat) : lampStateOf code = none ↔ 3 < code := by
  unfold lampStateOf
  split
  case h_5 => grind
  all_goals simp

theorem lampStateOf_code (st : LampState) : lampStateOf st.code.toNat = some st := by
  cases st <;> rfl

/-! ### What the bodies say (R141, R146, R151) -/

/-- R141: the repeat flag and the report-also flag of a flags byte. -/
theorem flags_testBit {d : Byte} (h : d.toNat ≤ 3) :
    d.toNat.testBit 0 = decide (d = 1 ∨ d = 3) ∧ d.toNat.testBit 1 = decide (2 ≤ d.toNat) := by
  have hd : d = 0 ∨ d = 1 ∨ d = 2 ∨ d = 3 := by bv_omega
  obtain rfl | rfl | rfl | rfl := hd <;> decide

theorem keyBindingArgs_eq_none {a b c d : Byte}
    (h : 63 < a.toNat ∨ 3 < d.toNat ∨ keyActionOf b.toNat c.toNat = none) : keyBindingArgs [a, b, c, d] = none := by
  change (if (63 < a.toNat || 3 < d.toNat) = true then none else (keyActionOf b.toNat c.toNat).map _) = none
  split
  · rfl
  · next hgood =>
    simp only [Bool.or_eq_true, decide_eq_true_eq, not_or] at hgood
    obtain ⟨ha, hd⟩ := hgood
    rw [(h.resolve_left ha).resolve_left hd, Option.map_none]

theorem keyBindingArgs_eq_some {a b c d : Byte} {act : KeyAction} (ha : a.toNat ≤ 63) (hd : d.toNat ≤ 3)
    (hact : keyActionOf b.toNat c.toNat = some act) : keyBindingArgs [a, b, c, d]
      = some (a.toNat, ⟨act, decide (d = 1 ∨ d = 3), decide (2 ≤ d.toNat)⟩) := by
  obtain ⟨hrepeat, halso⟩ := flags_testBit hd
  rw [← hrepeat, ← halso]
  change (if (63 < a.toNat || 3 < d.toNat) = true then none else (keyActionOf b.toNat c.toNat).map _) = _
  have hgood : ¬ (63 < a.toNat || 3 < d.toNat) = true := by simp [ha, hd]
  rw [if_neg hgood, hact, Option.map_some]
  rfl

theorem encBindingArgs_eq_none {a b c : Byte} (h : 5 < a.toNat ∨ encTargetOf b.toNat c.toNat = none) :
    encBindingArgs [a, b, c] = none := by
  change (if 5 < a.toNat then none else (encTargetOf b.toNat c.toNat).map _) = none
  split
  · rfl
  · next hgood => rw [h.resolve_left hgood, Option.map_none]

theorem encBindingArgs_eq_some {a b c : Byte} {t : EncTarget} (ha : a.toNat ≤ 5)
    (ht : encTargetOf b.toNat c.toNat = some t) : encBindingArgs [a, b, c] = some (a.toNat, t) := by
  change (if 5 < a.toNat then none else (encTargetOf b.toNat c.toNat).map _) = _
  rw [if_neg (by omega), ht, Option.map_some]
  rfl

/-- R151: a lamp's body that names no source or no state. -/
theorem ledArgs_lamp_eq_none {a b c : Byte} (ha : a.toNat ≤ 31)
    (h : lampSourceOf b.toNat = none ∨ lampStateOf c.toNat = none) : ledArgs [a, b, c] = none := by
  refine (if_pos ha).trans ?_
  obtain hsrc | hst := h
  · change lampSourceOf (byteAt [a, b, c] 1).toNat = none at hsrc
    rw [hsrc]
  · change lampStateOf (byteAt [a, b, c] 2).toNat = none at hst
    rw [hst]
    cases lampSourceOf (byteAt [a, b, c] 1).toNat with
    | none => rfl
    | some src => cases src <;> rfl

/-- R151: a lamp whose source is a status source is stored with the link state OFF. -/
theorem ledArgs_lamp {a b c : Byte} {src : LampSource} {st : LampState} (ha : a.toNat ≤ 31)
    (hsrc : lampSourceOf b.toNat = some src) (hst : lampStateOf c.toNat = some st) :
    ledArgs [a, b, c] = some (.lamp a.toNat ⟨src, if src = .link then st else .off⟩) := by
  change lampSourceOf (byteAt [a, b, c] 1).toNat = some src at hsrc
  change lampStateOf (byteAt [a, b, c] 2).toNat = some st at hst
  refine (if_pos ha).trans ?_
  rw [hsrc, hst]
  cases src <;> rfl

/-- R151: above lamp 31 only 255 means anything, and its third byte must be 0. -/
theorem ledArgs_of_not_lamp {a b c : Byte} (ha : 31 < a.toNat) :
    ledArgs [a, b, c] = if a = 255 ∧ c = 0 then some (.brightness b.toNat) else none := by
  have h255 : a.toNat = 255 ↔ a = 255 := by bv_omega
  have h0 : c.toNat = 0 ↔ c = 0 := by bv_omega
  refine (if_neg (Nat.not_le.mpr ha)).trans ?_
  change (if a.toNat = 255 then if c.toNat = 0 then some (LedArgs.brightness b.toNat) else none else none) = _
  simp only [← h255, ← h0, ite_and]

/-! ### What PANEL makes of a request that it takes -/

section Owner
variable {s : State} {k : ReqKind} {tag : Byte} {body : List Byte} {owner : State → Result}

/-- The owner of an accepted request answers it with a status and changes nothing. -/
theorem State.request_replyStatus (h : s.accepts k tag body) {st : Status}
    (howner : owner (s.entered k tag) = .next ((s.entered k tag).replyStatus tag st)) :
    s.request k tag body owner = .next (s.answered k tag [st.code]) := by
  rw [State.request_accepted h, howner, State.replyStatus, State.reply_entered _ (State.accepts_fresh h)]

/-- The owner of an accepted request changes PANEL alone, and answers with a status. -/
theorem State.request_setPanel (h : s.accepts k tag body) {p : Panel} {st : Status}
    (howner : owner (s.entered k tag) = .next (((s.entered k tag).setPanel p).replyStatus tag st)) :
    s.request k tag body owner = .next ((s.setPanel p).answered k tag [st.code]) := by
  rw [State.request_accepted h, howner]
  exact congrArg Host.Outcome.next (State.reply_entered (s := s.setPanel p) _ (State.accepts_fresh h))

end Owner

theorem exec_setKeyBinding (tag : Byte) (body : List Byte) (s : State) :
    exec (.setKeyBinding tag body) s = execSetKeyBinding tag body s := rfl

theorem exec_setEncoderBinding (tag : Byte) (body : List Byte) (s : State) :
    exec (.setEncoderBinding tag body) s = execSetEncoderBinding tag body s := rfl

theorem exec_setLed (tag : Byte) (body : List Byte) (s : State) :
    exec (.setLed tag body) s = execSetLed tag body s := rfl

section Panel
variable {s : State} {tag : Byte} {body : List Byte}

theorem execSetKeyBinding_badValue (h : s.accepts .setKeyBinding tag body) (hargs : keyBindingArgs body = none) :
    execSetKeyBinding tag body s = .next (s.answered .setKeyBinding tag [4]) :=
  State.request_replyStatus h (st := .badValue) (by rw [hargs])

theorem execSetKeyBinding_stored (h : s.accepts .setKeyBinding tag body) {key : Nat} {bind : KeyBinding}
    (hargs : keyBindingArgs body = some (key, bind)) : execSetKeyBinding tag body s
      = .next ((s.setPanel { s.panel with keyBind := s.panel.keyBind.setIfInBounds key bind }).answered
          .setKeyBinding tag [0]) :=
  State.request_setPanel h (st := .ok) (by rw [hargs]; rfl)

theorem execSetEncoderBinding_badValue (h : s.accepts .setEncoderBinding tag body)
    (hargs : encBindingArgs body = none) :
    execSetEncoderBinding tag body s = .next (s.answered .setEncoderBinding tag [4]) :=
  State.request_replyStatus h (st := .badValue) (by rw [hargs])

/-- R145, R146: the new target is stored and the encoder's run ends. -/
theorem execSetEncoderBinding_stored (h : s.accepts .setEncoderBinding tag body) {e : Nat} {t : EncTarget}
    (hargs : encBindingArgs body = some (e, t)) : execSetEncoderBinding tag body s
      = .next ((s.setPanel { s.panel with
          encs := s.panel.encs.setIfInBounds e { s.panel.enc e with run := none },
          encBind := s.panel.encBind.setIfInBounds e t }).answered .setEncoderBinding tag [0]) :=
  State.request_setPanel h (st := .ok) (by rw [hargs]; rfl)

theorem execSetLed_badValue (h : s.accepts .setLed tag body) (hargs : ledArgs body = none) :
    execSetLed tag body s = .next (s.answered .setLed tag [4]) :=
  State.request_replyStatus h (st := .badValue) (by rw [hargs])

theorem execSetLed_lamp (h : s.accepts .setLed tag body) {n : Nat} {l : Lamp}
    (hargs : ledArgs body = some (.lamp n l)) : execSetLed tag body s
      = .next ((s.setPanel { s.panel with lamps := s.panel.lamps.setIfInBounds n l }).answered .setLed tag [0]) :=
  State.request_setPanel h (st := .ok) (by rw [hargs]; rfl)

/-- R151: a brightness above 15 is stored as 15 and answered CLAMPED. -/
theorem execSetLed_brightness (h : s.accepts .setLed tag body) {b : Nat}
    (hargs : ledArgs body = some (.brightness b)) : execSetLed tag body s
      = .next ((s.setPanel { s.panel with brightness := min 15 b }).answered .setLed tag
          [if 15 < b then 1 else 0]) := by
  have hcode : (if 15 < b then Status.clamped else Status.ok).code = if 15 < b then (1 : Byte) else 0 :=
    apply_ite Status.code _ _ _
  rw [← hcode]
  exact State.request_setPanel h (by rw [hargs]; rfl)

end Panel

/-- Settles O53: each request stores what its body names (`keyActionOf_code`, `encTargetOf_code`, `lampSourceOf_code`),
and is refused exactly where its body names nothing (the `…_eq_none` lemmas). -/
theorem bindings : Obligations.Bindings := by
  intro s tag a b c d
  simp only [exec_setKeyBinding, exec_setEncoderBinding, exec_setLed]
  refine ⟨fun hacc => ⟨fun hbad => ?keyRefused, fun act ha hd hcode hsave hrecall => ?keyStored⟩,
    fun hacc => ⟨fun hbad => ?encRefused, fun t ha hcode hch => ?encStored⟩,
    fun hacc => ⟨fun hbad => ?ledRefused, fun src st ha hsrc hst => ?lamp, fun ha hc => ?brightness⟩,
    fun body hrx hused => ⟨fun hlen => ?keyLength, fun hlen => ?otherLength⟩⟩
  case keyRefused =>
    refine execSetKeyBinding_badValue hacc (keyBindingArgs_eq_none ?_)
    rw [keyActionOf_eq_none_iff]
    bv_omega
  case keyStored =>
    subst hcode
    exact execSetKeyBinding_stored hacc (keyBindingArgs_eq_some ha hd (keyActionOf_code act hsave hrecall))
  case encRefused =>
    refine execSetEncoderBinding_badValue hacc (encBindingArgs_eq_none ?_)
    rw [encTargetOf_eq_none_iff]
    bv_omega
  case encStored =>
    subst hcode
    exact execSetEncoderBinding_stored hacc (encBindingArgs_eq_some ha (encTargetOf_code t hch))
  case ledRefused =>
    refine execSetLed_badValue hacc ?_
    obtain ⟨ha, hne⟩ | ⟨ha, hbc⟩ | ⟨rfl, hc⟩ := hbad
    · rw [ledArgs_of_not_lamp ha, if_neg (fun h => hne h.1)]
    · exact ledArgs_lamp_eq_none ha (by rwa [lampSourceOf_eq_none_iff, lampStateOf_eq_none_iff])
    · rw [ledArgs_of_not_lamp (by decide), if_neg (fun h => hc h.2)]
  case lamp =>
    subst hsrc hst
    exact execSetLed_lamp hacc (ledArgs_lamp ha (lampSourceOf_code src) (lampStateOf_code st))
  case brightness =>
    subst ha hc
    exact execSetLed_brightness hacc ((ledArgs_of_not_lamp (by decide)).trans (if_pos ⟨rfl, rfl⟩))
  case keyLength =>
    have hbad : ReqKind.setKeyBinding.badLength body = true := bne_iff_ne.mpr hlen
    exact State.request_badLength hrx hused hbad
  case otherLength =>
    have henc : ReqKind.setEncoderBinding.badLength body = true := bne_iff_ne.mpr hlen
    have hled : ReqKind.setLed.badLength body = true := bne_iff_ne.mpr hlen
    exact ⟨State.request_badLength hrx hused henc, State.request_badLength hrx hused hled⟩

end Sys2Proof.Machine
end

section
/-! The requests that LINK answers at once, start-up included (R188, R189): when it hands them over, and the replies to
IDENTIFY, ECHO and GET_STATUS. -/

namespace Sys2Proof.Machine

/-! ### Handed over in every state (R181 step 4, R188, R189) -/

section Taking
variable {s : State} {k : ReqKind} {tag : Byte} {body : List Byte}

/-- A request that start-up does not hold up meets only the checks of its length, its tag and the table's room: whether
start-up has ended is not asked. -/
theorem State.accepts_of_inStartUp (hkind : k.inStartUp = true) (hrx : s.link.rx = .awaitingSync)
    (hused : s.link.used < 16) (hlen : k.badLength body = false)
    (hfresh : s.link.table.any (fun p => p.tag = tag) = false) (hroom : s.link.table.length < 8) :
    s.accepts k tag body := by
  refine ⟨hrx, hused, ?_⟩
  have hready : (!s.link.started && !k.inStartUp) = false := by rw [hkind, Bool.not_true, Bool.and_false]
  simp only [Link.check, hlen, hfresh, hready, Bool.false_eq_true, if_false, if_neg (Nat.not_le.mpr hroom)]

/-- The owner of an accepted request answers it and changes nothing. -/
theorem State.request_reply (h : s.accepts k tag body) (reply : List Byte) :
    s.request k tag body (fun t => .next (t.reply tag reply)) = .next (s.answered k tag reply) := by
  rw [State.request_accepted h, State.reply_entered reply (State.accepts_fresh h)]

end Taking

theorem ReqKind.echo_badLength_iff (body : List Byte) : ReqKind.echo.badLength body = true ↔ 1023 < body.length :=
  decide_eq_true_iff

/-! ### IDENTIFY and ECHO (R188) -/

theorem exec_identify (tag : Byte) (body : List Byte) (s : State) : exec (.identify tag body) s
    = s.request .identify tag body fun s => .next (s.reply tag identifyBody) := rfl

theorem exec_echo (tag : Byte) (body : List Byte) (s : State) : exec (.echo tag body) s
    = s.request .echo tag body fun s => .next (s.reply tag (0 :: body)) := rfl

/-- R188's bytes: the vendor code 0x4E42, the part code 460 and the greatest body length 1,024 stand low byte first. -/
theorem identifyBody_eq :
    identifyBody = [0, 0x42, 0x4E, 0xCC, 0x01, 1, 4, 28, 32, 64, 6, 32, 8, 16, 64, 32, 4, 0x00, 0x04] := by decide

/-- Settles O4: an accepted request leaves its reply alone (`State.request_reply`), and LINK does not ask of either
request whether start-up has ended (`State.accepts_of_inStartUp`). -/
theorem identifyAndEcho : Obligations.IdentifyAndEcho := by
  intro s tag body
  refine ⟨fun hacc => ?identify, fun hacc => ?echo, fun hrx hused hlong => ?tooLong,
    fun hrx hused hfresh hroom => ⟨?identifyTaken, fun hlen => ?echoTaken⟩⟩
  case identify => rw [exec_identify, State.request_reply hacc, identifyBody_eq]
  case echo => rw [exec_echo, State.request_reply hacc]
  case tooLong =>
    rw [exec_echo]
    exact State.request_badLength hrx hused ((ReqKind.echo_badLength_iff body).mpr hlong)
  case identifyTaken => exact State.accepts_of_inStartUp rfl hrx hused rfl hfresh hroom
  case echoTaken =>
    have hgood : ReqKind.echo.badLength body = false := by
      rw [← Bool.not_eq_true, ReqKind.echo_badLength_iff]
      omega
    exact State.accepts_of_inStartUp rfl hrx hused hgood hfresh hroom

/-! ### GET_STATUS (R189) -/

/-- The reply is made of the state as the request finds it, before it is entered. -/
theorem exec_getStatus (tag : Byte) (body : List Byte) (s : State) : exec (.getStatus tag body) s
    = s.request .getStatus tag body fun t => .next (t.reply tag s.statusBody) := rfl

/-- An item for each channel, CH1 first. -/
theorem Channel.map_all {α : Type} (f : Channel → α) : Channel.all.map f = [f .ch1, f .ch2, f .ch3, f .ch4] := rfl

/-- Settles O5: the accepted request leaves its reply alone (`State.request_reply`), whose bytes are those of
`State.statusBody` with the channels' items written out; it is handed over whether or not start-up has ended
(`State.accepts_of_inStartUp`). -/
theorem statusReply : Obligations.StatusReply := by
  intro s tag
  refine ⟨fun hrx hused hfresh hroom => ?taken, fun hacc => ?reply⟩
  case taken => exact State.accepts_of_inStartUp rfl hrx hused rfl hfresh hroom
  case reply =>
    rw [exec_getStatus, State.request_reply hacc, State.statusBody, Channel.map_all, Channel.map_all]
    simp only [List.append_assoc]
    rfl

end Sys2Proof.Machine
end
